-- ==== Sys2Proof/Word.lean ====
section
/-! DEFINITION. The widths of the SSCU's values (00_scope.md R8, R9, R15; 30_encoding.md R151). -/

namespace Sys2Proof

/-- A 32-bit register word, sequence number or IPv4 address (R8, R101). -/
abbrev Word := BitVec 32

/-- A 16-bit window, length or checksum (R9, R316). -/
abbrev Half := BitVec 16

/-- A buffer byte (R104). -/
abbrev Byte := BitVec 8

/-- A 6-bit register number (R101, R151). -/
abbrev RegNo := BitVec 6

/-- A 12-bit buffer-space byte address (R103, R151). -/
abbrev BufAddr := BitVec 12

end Sys2Proof
end

