-- ==== Sys2Proof/Syntax.lean ====
section
/-! DEFINITION. The commands of the SSCU (30_encoding.md R144), the fields of a command word (R140), the
names of its registers (10_state.md R72) and the accesses a host makes (30_encoding.md R151). -/

namespace Sys2Proof

/-- The seven commands, one constructor for each row of the opcode map (R144). Only ACCEPTABLE carries
operands in its word: the flags `syn` and `fin` (R142). -/
inductive Instr where
  /-- BETWEEN, the circular comparison of OPA, OPB and OPC (40_seqmath.md R205). -/
  | between
  /-- ACCEPTABLE, the window-edge test of host operands (41_acceptability.md R233). -/
  | acceptable (syn fin : Bool)
  /-- PARSE, validate the frame in RXBUF (45_frame.md R399). -/
  | parse
  /-- SYNRCV, create the TCB from an inbound SYN (44_accept.md R350). -/
  | synrcv
  /-- SEGMENT, process an inbound segment (42_segment.md R260). -/
  | segment
  /-- RELEASE, destroy the TCB (44_accept.md R359). -/
  | release
  /-- CLOSE, request an orderly close (42_segment.md R280). -/
  | close
  deriving DecidableEq, Repr

/-- The four fields of a command word, format CMD32 (R140). -/
structure CmdFields where
  /-- Bits 7:0, the opcode. -/
  opc : BitVec 8
  /-- Bit 8, the SYN operand of ACCEPTABLE. -/
  synBit : Bool
  /-- Bit 9, the FIN operand of ACCEPTABLE. -/
  finBit : Bool
  /-- Bits 31:10, reserved. -/
  rsv : BitVec 22
  deriving DecidableEq, Repr

/-- The registers of the R72 table, in its order. -/
inductive Reg where
  | cmd | status | sticky | res | opa | opb | opc | rxlen | txlen | txvalid | cfg | slen | wend
  | state | sndUna | sndNxt | sndWnd | sndUp | sndWl1 | sndWl2 | sndIss
  | rcvNxt | rcvWnd | rcvUp | rcvIrs | tplLaddr | tplRaddr | tplPorts | tplFlags
  | vValid | vSaddr | vDaddr | vProto | vPlen | vPorts | vSeq | vAck | vWnd | vFlags | vDlen | vDoff
  deriving DecidableEq, Repr

/-- What can happen to the SSCU from outside: the four kinds of host access (R151), and reset, which the
platform applies between host accesses (70_reset_and_hazards.md R481). -/
inductive HostEvent where
  /-- `RD`: read a register (kind RR). -/
  | readReg (n : RegNo)
  /-- `WR`: write a register (kind RW); a write to CMD starts a command. -/
  | writeReg (n : RegNo) (v : Word)
  /-- `RB`: read a buffer byte (kind BR). -/
  | readBuf (a : BufAddr)
  /-- `WB`: write a buffer byte (kind BW). -/
  | writeBuf (a : BufAddr) (b : Byte)
  /-- The external reset. -/
  | reset
  deriving DecidableEq, Repr

end Sys2Proof
end

