-- ==== Sys2Proof/WellFormed.lean ====
section
/-! DEFINITION. Which command words are legal: the three checks of 30_encoding.md R143. -/

namespace Sys2Proof

/-- The reserved field is zero (R143, first case). -/
def CmdFields.rsvIsZero (c : CmdFields) : Bool := c.rsv == 0#22

/-- The opcode is one of the R144 map (R143, third case). -/
def CmdFields.opcIsMapped (c : CmdFields) : Bool := decide (1#8 ≤ c.opc) && decide (c.opc ≤ 7#8)

/-- The flag bits are zero, or the opcode is ACCEPTABLE's (R143, second case). -/
def CmdFields.flagsAreAllowed (c : CmdFields) : Bool :=
  (!c.synBit && !c.finBit) || c.opc == 2#8

/-- A command word is legal when it passes the three checks (R143). -/
def CmdFields.wellFormed (c : CmdFields) : Bool :=
  c.rsvIsZero && c.opcIsMapped && c.flagsAreAllowed

/-- Why a command word is illegal, one name for each case of R143. -/
inductive IllegalWord where
  /-- `CMD[31:10] != 0`. -/
  | reservedBits
  /-- OPC is not one of the values of R144. -/
  | reservedOpcode
  /-- `CMD[9:8] != 0` and OPC is not 0x02. -/
  | flagBitsOutsideAcceptable
  deriving DecidableEq, Repr

/-- An instruction is well-formed when its encoding can hold its operands. Every one is: ACCEPTABLE's two
flags fill the S and F bits, and no other command has an operand in its word (R144, R147). -/
def Instr.wellFormed : Instr → Bool
  | .between => true
  | .acceptable _ _ => true
  | .parse => true
  | .synrcv => true
  | .segment => true
  | .release => true
  | .close => true

end Sys2Proof
end

