-- ==== Sys2Proof/Decode.lean ====
section
/-! DEFINITION. Decoding and encoding of command words (30_encoding.md R140 to R146), the register
numbers (10_state.md R72), and the host-access listings of the pseudo-instructions (30_encoding.md R150). -/

namespace Sys2Proof

/-- The fields of a command word (R140). -/
def fieldsOf (w : Word) : CmdFields where
  opc := w.extractLsb' 0 8
  synBit := w.getLsbD 8
  finBit := w.getLsbD 9
  rsv := w.extractLsb' 10 22

/-- The command word with given fields, `RRRRRRRRRRRRRRRRRRRRRRFSOOOOOOOO` (R140). -/
def wordOf (c : CmdFields) : Word :=
  (c.rsv ++ BitVec.ofBool c.finBit ++ BitVec.ofBool c.synBit ++ c.opc).setWidth 32

/-- The command that OPC selects, with the S and F bits as its operands (R141, R142, R144). -/
def commandOf (c : CmdFields) : Option Instr :=
  match c.opc.toNat with
  | 0x01 => some .between
  | 0x02 => some (.acceptable c.synBit c.finBit)
  | 0x03 => some .parse
  | 0x04 => some .synrcv
  | 0x05 => some .segment
  | 0x06 => some .release
  | 0x07 => some .close
  | _ => none

/-- Decode a command word, or say by name why it is illegal (R143, R144, R146). -/
def decode (w : Word) : Except IllegalWord Instr :=
  if !(fieldsOf w).rsvIsZero then .error .reservedBits
  else
    match commandOf (fieldsOf w) with
    | none => .error .reservedOpcode
    | some i => if (fieldsOf w).flagsAreAllowed then .ok i else .error .flagBitsOutsideAcceptable

/-- The fields of a command's word (R142, R144). -/
def Instr.fields : Instr → CmdFields
  | .between => ⟨0x01, false, false, 0⟩
  | .acceptable syn fin => ⟨0x02, syn, fin, 0⟩
  | .parse => ⟨0x03, false, false, 0⟩
  | .synrcv => ⟨0x04, false, false, 0⟩
  | .segment => ⟨0x05, false, false, 0⟩
  | .release => ⟨0x06, false, false, 0⟩
  | .close => ⟨0x07, false, false, 0⟩

/-- The one command word of an instruction (R144). -/
def encode (i : Instr) : Word := wordOf i.fields

/-- The instruction the decoder reads from a table row's bits. A command is one 32-bit register word
(R146), so bits beyond the 32nd belong to no command and are refused (log 11). -/
def decodeTableWord (nbits w : Nat) : Option Instr :=
  if w % 2 ^ nbits < 2 ^ 32 then (decode (BitVec.ofNat 32 (w % 2 ^ nbits))).toOption else none

/-- The register number of a register (R72). -/
def Reg.number : Reg → RegNo
  | .cmd => 0x00 | .status => 0x01 | .sticky => 0x02 | .res => 0x03
  | .opa => 0x04 | .opb => 0x05 | .opc => 0x06 | .rxlen => 0x07
  | .txlen => 0x08 | .txvalid => 0x09 | .cfg => 0x0A | .slen => 0x0B | .wend => 0x0C
  | .state => 0x10 | .sndUna => 0x11 | .sndNxt => 0x12 | .sndWnd => 0x13
  | .sndUp => 0x14 | .sndWl1 => 0x15 | .sndWl2 => 0x16 | .sndIss => 0x17
  | .rcvNxt => 0x18 | .rcvWnd => 0x19 | .rcvUp => 0x1A | .rcvIrs => 0x1B
  | .tplLaddr => 0x1C | .tplRaddr => 0x1D | .tplPorts => 0x1E | .tplFlags => 0x1F
  | .vValid => 0x20 | .vSaddr => 0x21 | .vDaddr => 0x22 | .vProto => 0x23
  | .vPlen => 0x24 | .vPorts => 0x25 | .vSeq => 0x26 | .vAck => 0x27
  | .vWnd => 0x28 | .vFlags => 0x29 | .vDlen => 0x2A | .vDoff => 0x2B

/-- The register at a register number; none at the reserved numbers 0x0D to 0x0F and 0x2C to 0x3F
(R72, R73). -/
def Reg.ofNumber (n : RegNo) : Option Reg :=
  match n.toNat with
  | 0x00 => some .cmd | 0x01 => some .status | 0x02 => some .sticky | 0x03 => some .res
  | 0x04 => some .opa | 0x05 => some .opb | 0x06 => some .opc | 0x07 => some .rxlen
  | 0x08 => some .txlen | 0x09 => some .txvalid | 0x0A => some .cfg
  | 0x0B => some .slen | 0x0C => some .wend
  | 0x10 => some .state | 0x11 => some .sndUna | 0x12 => some .sndNxt | 0x13 => some .sndWnd
  | 0x14 => some .sndUp | 0x15 => some .sndWl1 | 0x16 => some .sndWl2 | 0x17 => some .sndIss
  | 0x18 => some .rcvNxt | 0x19 => some .rcvWnd | 0x1A => some .rcvUp | 0x1B => some .rcvIrs
  | 0x1C => some .tplLaddr | 0x1D => some .tplRaddr | 0x1E => some .tplPorts
  | 0x1F => some .tplFlags
  | 0x20 => some .vValid | 0x21 => some .vSaddr | 0x22 => some .vDaddr | 0x23 => some .vProto
  | 0x24 => some .vPlen | 0x25 => some .vPorts | 0x26 => some .vSeq | 0x27 => some .vAck
  | 0x28 => some .vWnd | 0x29 => some .vFlags | 0x2A => some .vDlen | 0x2B => some .vDoff
  | _ => none

/-- The registers the R72 table marks "R/W". -/
def Reg.hostWritable : Reg → Bool
  | .cmd | .opa | .opb | .opc | .rxlen | .cfg => true
  | _ => false

/-- A command in an SSCU program: `WR CMD, <word>` (R150). -/
def Instr.access (i : Instr) : HostEvent := .writeReg Reg.cmd.number (encode i)

/-- `OPS a, b, c` (R150). -/
def opsAccesses (a b c : Word) : List HostEvent :=
  [.writeReg Reg.opa.number a, .writeReg Reg.opb.number b, .writeReg Reg.opc.number c]

/-- `WB at, b0`, `WB at + 1, b1`, and so on. -/
def writeAccesses : Nat → List Byte → List HostEvent
  | _, [] => []
  | at_, b :: bs => .writeBuf (BitVec.ofNat 12 at_) b :: writeAccesses (at_ + 1) bs

/-- `LOADFRAME b0 b1 …`: the bytes from address 0, then RXLEN (R150). -/
def loadFrameAccesses (bs : List Byte) : List HostEvent :=
  writeAccesses 0 bs ++ [.writeReg Reg.rxlen.number (BitVec.ofNat 32 bs.length)]

end Sys2Proof
end

