-- ==== Sys2Proof/Config.lean ====
section
/-! DEFINITION. The parameters of the SSCU (00_scope.md R10 to R14, 20_memory.md R112) and the free
value an unwritten buffer byte holds (20_memory.md R107). A parameter the spec leaves OPEN is an opaque
constant: no proof can see its value, only the range its type gives. -/

namespace Sys2Proof

/-- `P_RXMAX`, the largest inbound frame: "This spec takes `P_RXMAX = 1504`" (R10; log 6). -/
def Config.pRxMax : Nat := 1504

/-- By how much `P_MTU` exceeds 40: OPEN, any value from 0 to 2008 (R11; log 5). -/
opaque Config.mtuAbove40 : Fin 2009

/-- `P_MTU`, the transport's maximum transmission unit: OPEN, 40 to 2048 (R11). -/
def Config.pMtu : Nat := Config.mtuAbove40.val + 40

/-- `P_TTL`, the Time-To-Live byte of every outgoing IPv4 header: OPEN (R12; log 5). -/
opaque Config.pTtl : Byte

/-- `P_INIT_WND_RESET`, the reset value of CFG.INIT_WND: OPEN (R13; log 5). -/
opaque Config.pInitWndReset : Half

/-- `HOST_BASE`, where the two spaces sit in the host's address space: OPEN, and read by no rule (R112). -/
opaque Config.hostBase : Nat

/-- What a buffer byte holds when nothing has written it since reset: "an arbitrary value (a draw)", one
for each reset and each buffer address (R107, R482; log 3). -/
opaque Config.unwrittenByte : (resetCount address : Nat) → Byte

end Sys2Proof
end

