-- ==== Sys2Proof/Machine/State.lean ====
section
/-! DEFINITION. The state of the SSCU: every register of 10_state.md R72, the buffer space of
20_memory.md R103, and three fields of the model's own (the host events still to come, the data the
host's reads returned, and the number of resets). Plain data throughout. -/

namespace Sys2Proof.Machine

/-- The values of STATE, in the order of their codes 0 to 5; codes 6 and 7 are never held (R44). -/
inductive TcbState where
  | closed | synReceived | established | finWait1 | finWait2 | timeWait
  deriving DecidableEq, Repr

/-- The status codes 0 to 10 (60_exceptions.md R441). -/
inductive Status where
  | ok | ignored | malformed | unacceptable | protocolViolation
  /-- Code 5, reserved and never raised (R450). -/
  | checksumFailure
  /-- Code 6, reserved and never raised (R451). -/
  | transportError
  | closedIgnored | notSyn | busy | illegalCmd
  deriving DecidableEq, Repr

/-- The TCB group, the registers 0x10 to 0x1F (R58). -/
structure Tcb where
  /-- STATE (R44). -/
  state : TcbState
  /-- SND_UNA, oldest unacknowledged sequence number (R45). -/
  sndUna : Word
  /-- SND_NXT, next sequence number to send (R46). -/
  sndNxt : Word
  /-- SND_WND, the window EMIT advertises (R47). -/
  sndWnd : Half
  /-- SND_UP, stored and never read (R48). -/
  sndUp : Bool
  /-- SND_WL1, stored and never read (R49). -/
  sndWl1 : Word
  /-- SND_WL2, stored and never read (R49). -/
  sndWl2 : Word
  /-- SND_ISS, initial send sequence number (R50). -/
  sndIss : Word
  /-- RCV_NXT, next expected sequence number (R51). -/
  rcvNxt : Word
  /-- RCV_WND, the window of the acceptability test (R52). -/
  rcvWnd : Half
  /-- RCV_UP, stored and never read (R53). -/
  rcvUp : Bool
  /-- RCV_IRS, initial receive sequence number (R54). -/
  rcvIrs : Word
  /-- TPL_LADDR, local IPv4 address (R55). -/
  tplLaddr : Word
  /-- TPL_RADDR, remote IPv4 address (R55). -/
  tplRaddr : Word
  /-- TPL_PORTS, local port in 31:16 and remote port in 15:0 (R56). -/
  tplPorts : Word
  /-- TPL_FLAGS, in the bit positions of the TCP flags byte; bits other than 0, 1 and 4 stay 0 (R57). -/
  tplFlags : Byte
  deriving DecidableEq, Repr

/-- The TCB group with every register 0: no TCB (R58, 44_accept.md R360). -/
def Tcb.cleared : Tcb where
  state := .closed
  sndUna := 0
  sndNxt := 0
  sndWnd := 0
  sndUp := false
  sndWl1 := 0
  sndWl2 := 0
  sndIss := 0
  rcvNxt := 0
  rcvWnd := 0
  rcvUp := false
  rcvIrs := 0
  tplLaddr := 0
  tplRaddr := 0
  tplPorts := 0
  tplFlags := 0

/-- The view registers V_SADDR to V_DOFF, which are written together (R62 to R71). -/
structure View where
  /-- V_SADDR (R62). -/
  saddr : Word
  /-- V_DADDR (R62). -/
  daddr : Word
  /-- V_PROTO (R63). -/
  proto : Byte
  /-- V_PLEN, TCP header and data bytes (R64). -/
  plen : Half
  /-- V_PORTS, source port in 31:16 and destination port in 15:0 (R65). -/
  ports : Word
  /-- V_SEQ (R66). -/
  seq : Word
  /-- V_ACK (R66). -/
  ack : Word
  /-- V_WND (R67). -/
  wnd : Half
  /-- V_FLAGS, the TCP flags byte unchanged (R68). -/
  flags : Byte
  /-- V_DLEN, payload byte count (R69). -/
  dlen : Half
  /-- V_DOFF, RXBUF index of the first data byte (R70). -/
  doff : Half
  deriving DecidableEq, Repr

/-- The view registers after reset (R72). -/
def View.cleared : View where
  saddr := 0
  daddr := 0
  proto := 0
  plen := 0
  ports := 0
  seq := 0
  ack := 0
  wnd := 0
  flags := 0
  dlen := 0
  doff := 0

/-- The data a host read returns: a 32-bit register word or a buffer byte (30_encoding.md R151). -/
inductive BusData where
  | word (v : Word)
  | byte (b : Byte)
  deriving DecidableEq, Repr

/-- Buffer space as far as it has been written since reset: a list of (address, byte) cells in one
canonical form (`Memory.wf`). An unlisted address holds no written byte (log 4). -/
abbrev Memory := List Host.Cell

/-- The SSCU has no trap and no condition that stops it: every error is a status code (60_exceptions.md
R440, R458). So no step faults, and this type has no constructor (log 9). Safe: nothing is left out. -/
inductive Fault where
  deriving DecidableEq, Repr

/-- Why a step has no meaning. -/
inductive Refusal where
  /-- Raised only by an arm of `exec` whose command has no meaning yet; no arm is like that. Safe. -/
  | notModelled (mnemonic : String)
  deriving DecidableEq, Repr

end Sys2Proof.Machine

namespace Sys2Proof.Machine

/-- The state of the SSCU. -/
structure State where
  /-- CMD, the last command word written (R37). -/
  cmd : Word
  /-- STATUS, the code of the last command (R38). -/
  status : Status
  /-- STICKY bits 10:0; bit 0 is always 0 (R39). -/
  sticky : BitVec 11
  /-- RES bit 0 (R35). -/
  res : Bool
  /-- OPA (R34). -/
  opa : Word
  /-- OPB (R34). -/
  opb : Word
  /-- OPC (R34). -/
  opc : Word
  /-- RXLEN bits 15:0 (R40). -/
  rxlen : Half
  /-- TXLEN bits 15:0 (R41). -/
  txlen : Half
  /-- TXVALID bit 0 (R42). -/
  txvalid : Bool
  /-- CFG.INIT_WND, CFG bits 15:0 (R43). -/
  initWnd : Half
  /-- CFG.AUTOCLOSE, CFG bit 16 (R43). -/
  autoclose : Bool
  /-- SLEN (R36). -/
  slen : Word
  /-- WEND (R36). -/
  wend : Word
  /-- The TCB group, registers 0x10 to 0x1F (R58). -/
  tcb : Tcb
  /-- V_VALID bit 0 (R61). -/
  vValid : Bool
  /-- The view registers 0x21 to 0x2B (R71). -/
  view : View
  /-- RXBUF and TXBUF as far as written since reset (20_memory.md R103). -/
  buf : Memory
  /-- The model's own: how many resets there have been; it selects the draws of the unwritten buffer
  bytes (log 3). -/
  resetCount : Nat
  /-- The model's own: the host accesses and resets still to come, first one first (log 1). -/
  pending : List HostEvent
  /-- The model's own: the data the host's reads have returned, newest first (log 2). -/
  returned : List BusData
  deriving DecidableEq, Repr

/-- The machine right after reset: the "reset" column of R72 (R75, 70_reset_and_hazards.md R480), no buffer
byte written (R482), and no host access made. -/
def State.reset : State where
  cmd := 0
  status := .ok
  sticky := 0
  res := false
  opa := 0
  opb := 0
  opc := 0
  rxlen := 0
  txlen := 0
  txvalid := false
  initWnd := Config.pInitWndReset
  autoclose := true
  slen := 0
  wend := 0
  tcb := .cleared
  vValid := false
  view := .cleared
  buf := []
  resetCount := 0
  pending := []
  returned := []

end Sys2Proof.Machine
end

