-- ==== Sys2Proof/Machine/Ops.lean ====
section
/-! DEFINITION. The named operations of the SSCU: reading and writing buffer space (20_memory.md), the
encodings of STATE and STATUS, the updates a command makes to the state, and how a command starts and ends
(60_exceptions.md R442, R445; 00_scope.md R20). -/

namespace Sys2Proof.Machine

/-! Buffer space. -/

/-- The byte written at an address since reset, if any. -/
def Memory.byteAt : Memory → Nat → Option Byte
  | [], _ => none
  | (k, b) :: m, a => if k = a then some b else Memory.byteAt m a

/-- Write one byte, keeping the cells in rising order with no address twice. -/
def Memory.setByte : Memory → Nat → Byte → Memory
  | [], a, b => [(a, b)]
  | (k, c) :: m, a, b =>
    if a < k then (a, b) :: (k, c) :: m
    else if a = k then (a, b) :: m
    else (k, c) :: Memory.setByte m a b

/-- Write bytes at rising addresses from `a`. -/
def Memory.setBytes : Memory → Nat → List Byte → Memory
  | m, _, [] => m
  | m, a, b :: bs => Memory.setBytes (Memory.setByte m a b) (a + 1) bs

/-- The bytes of an n-byte field are stored most significant first (R102): a 16-bit field. -/
def halfBytes (h : Half) : List Byte := [h.extractLsb' 8 8, h.extractLsb' 0 8]

/-- A 32-bit field, most significant byte first (R102). -/
def wordBytes (w : Word) : List Byte :=
  [w.extractLsb' 24 8, w.extractLsb' 16 8, w.extractLsb' 8 8, w.extractLsb' 0 8]

/-- Where TXBUF starts (R103). -/
def txBase : Nat := 0x800

/-- The address holds an RXBUF byte: 0x000 to `P_RXMAX - 1` (R103). -/
def inRxbuf (a : Nat) : Bool := decide (a < Config.pRxMax)

/-- The address holds a TXBUF byte: 0x800 to `0x800 + P_MTU - 1` (R103). -/
def inTxbuf (a : Nat) : Bool := decide (txBase ≤ a) && decide (a < Config.pMtu + txBase)

/-- The only addresses a write can reach: RXBUF, which the host writes (R104), and TXBUF bytes 0 to 39,
which EMIT writes (R120). -/
def writable (a : Nat) : Bool :=
  inRxbuf a || (decide (txBase ≤ a) && decide (a < txBase + 40))

/-- The canonical form: addresses strictly rising, each one that a write can reach. -/
abbrev Memory.wf (m : Memory) : Prop :=
  m.Pairwise (fun x y => x.1 < y.1) ∧ ∀ c ∈ m, writable c.1 = true

/-- The byte at a buffer address: what was last written there, or the draw of a byte nothing has written
since reset (R107, R482). -/
def State.bufByte (s : State) (a : Nat) : Byte :=
  (s.buf.byteAt a).getD (Config.unwrittenByte s.resetCount a)

/-! The codes of STATE and STATUS. -/

/-- The encoding of STATE (10_state.md R44). -/
def TcbState.code : TcbState → BitVec 3
  | .closed => 0
  | .synReceived => 1
  | .established => 2
  | .finWait1 => 3
  | .finWait2 => 4
  | .timeWait => 5

/-- The code of a status (60_exceptions.md R441). -/
def Status.code : Status → BitVec 8
  | .ok => 0
  | .ignored => 1
  | .malformed => 2
  | .unacceptable => 3
  | .protocolViolation => 4
  | .checksumFailure => 5
  | .transportError => 6
  | .closedIgnored => 7
  | .notSyn => 8
  | .busy => 9
  | .illegalCmd => 10

/-- `1 << code`, the STICKY bit of a status (R445). -/
def Status.stickyBit (c : Status) : BitVec 11 := 1#11 <<< c.code.toNat

/-! The updates of the state. -/

/-- Store the command word (R442, "first stores the word in CMD"). -/
def State.withCmd (s : State) (w : Word) : State := { s with cmd := w }

/-- Set RES (R35). -/
def State.withRes (s : State) (b : Bool) : State := { s with res := b }

/-- Set SLEN, WEND and RES, the three results of an acceptability evaluation (R36). -/
def State.withAcc (s : State) (ok : Bool) (slen wend : Word) : State :=
  { s with slen := slen, wend := wend, res := ok }

/-- Replace the TCB group. -/
def State.withTcb (s : State) (t : Tcb) : State := { s with tcb := t }

/-- Write every view register, and V_VALID = 1 (R71). -/
def State.withView (s : State) (v : View) : State := { s with vValid := true, view := v }

/-- V_VALID = 0; the other view registers keep their values (R71). -/
def State.withoutView (s : State) : State := { s with vValid := false }

/-- Put a datagram of `n` bytes into TXBUF, with TXLEN and TXVALID (43_emit.md R321). -/
def State.withDatagram (s : State) (n : Nat) (bs : List Byte) : State :=
  { s with buf := s.buf.setBytes txBase bs, txlen := BitVec.ofNat 16 n, txvalid := true }

/-- Return data to the host. -/
def State.withReturned (s : State) (d : BusData) : State := { s with returned := d :: s.returned }

/-- Replace what the host still has to do. -/
def State.withPending (s : State) (es : List HostEvent) : State := { s with pending := es }

/-! How a command starts and ends. -/

/-- Command-start bookkeeping (R442): STATUS is OK and TXVALID is 0. -/
def State.startCommand (s : State) : State := { s with status := .ok, txvalid := false }

/-- End-of-command bookkeeping (R445): a status other than OK sets its STICKY bit. -/
def State.endCommand (s : State) : State :=
  if s.status = .ok then s else { s with sticky := s.sticky ||| s.status.stickyBit }

/-- `raise Status(CODE)` (00_scope.md R20): set STATUS and end the command; earlier writes stand. This is
how the SSCU takes every exception it has (60_exceptions.md R440); there is no return from one (R459). -/
def State.raiseStatus (c : Status) (s : State) : State := State.endCommand { s with status := c }

/-- What a part of a command's rule does: go on with a state, or raise a status. -/
inductive Flow where
  | go (s : State)
  | raise (c : Status) (s : State)
  deriving DecidableEq, Repr

/-- The next part of the rule, run only if this one did not raise. -/
def Flow.andThen : Flow → (State → Flow) → Flow
  | .go s, f => f s
  | .raise c s, _ => .raise c s

/-- End the command: `finish`, or the raise (00_scope.md R20). -/
def Flow.finish : Flow → State
  | .go s => s.endCommand
  | .raise c s => s.raiseStatus c

end Sys2Proof.Machine
end

