-- ==== Sys2Proof/Machine/Operands.lean ====
section
/-! DEFINITION. Where each command's operands come from (30_encoding.md R147, R148), and the buffer reads
`RX`, `RX16` and `RX32` (00_scope.md R19). No operand is sign-extended, scaled or shifted. -/

namespace Sys2Proof.Machine

/-- BETWEEN: start. -/
def State.betweenStart (s : State) : Word := s.opa

/-- BETWEEN: x. -/
def State.betweenPoint (s : State) : Word := s.opb

/-- BETWEEN: end. -/
def State.betweenEnd (s : State) : Word := s.opc

/-- ACCEPTABLE: seqn. -/
def State.acceptSeqn (s : State) : Word := s.opa

/-- ACCEPTABLE: recv.nxt. -/
def State.acceptNxt (s : State) : Word := s.opb

/-- ACCEPTABLE: recv.wnd is `x[OPC][15:0]`. -/
def State.acceptWnd (s : State) : Half := s.opc.extractLsb' 0 16

/-- ACCEPTABLE: data_len is `x[OPC][31:16]`. -/
def State.acceptDataLen (s : State) : Half := s.opc.extractLsb' 16 16

/-- SYNRCV: iss. -/
def State.synIss (s : State) : Word := s.opa

/-- `RX(i)`: the RXBUF byte `i`, which lies at buffer address `i` (R19, R103). -/
def State.rx (s : State) (i : Nat) : Byte := s.bufByte i

/-- `RX16(i)` of the bytes `rx`, big-endian (R19, R102). -/
def half16 (rx : Nat → Byte) (i : Nat) : Half := (rx i ++ rx (i + 1)).setWidth 16

/-- `RX32(i)` of the bytes `rx`, big-endian (R19, R102). -/
def word32 (rx : Nat → Byte) (i : Nat) : Word :=
  (rx i ++ rx (i + 1) ++ rx (i + 2) ++ rx (i + 3)).setWidth 32

/-- `RX(i)[7:4]` as a count. -/
def highNibble (b : Byte) : Nat := (b.extractLsb' 4 4).toNat

/-- `RX(i)[3:0]` as a count. -/
def lowNibble (b : Byte) : Nat := (b.extractLsb' 0 4).toNat

/-- The FIN bit of a flags byte (30_encoding.md R154). -/
def finFlag (b : Byte) : Bool := b.getLsbD 0

/-- The SYN bit of a flags byte. -/
def synFlag (b : Byte) : Bool := b.getLsbD 1

/-- The ACK bit of a flags byte. -/
def ackFlag (b : Byte) : Bool := b.getLsbD 4

/-- The template's ports from the view's: local is the SYN's destination port, remote its source port
(44_accept.md R350). -/
def swapPorts (p : Word) : Word := (p.extractLsb' 0 16 ++ p.extractLsb' 16 16).setWidth 32

end Sys2Proof.Machine
end

