-- ==== Sys2Proof/Machine/Emit.lean ====
section
/-! DEFINITION. EMIT, the micro-operation that builds one IPv4 and TCP datagram from the TCB, puts it in
TXBUF and does the sequence bookkeeping (43_emit.md R310 to R323). -/

namespace Sys2Proof.Machine

/-- `p`, the payload length: every emission is empty (R311). -/
def payloadLen : Nat := 0

/-- `n = min(P_MTU, 40 + p)`, the datagram's length (R312). -/
def datagramLen : Nat := min (40 + payloadLen) Config.pMtu

/-- End-around carry: the carry out of bit 15 goes back into bit 0 (R316). -/
def endAround (s : Nat) : Nat := s % 65536 + s / 65536

/-- The running sum of `CSUM` over big-endian 16-bit words; an odd last byte is padded with a zero low
byte (R316). -/
def csumLoop : Nat → List Byte → Nat
  | s, [] => s
  | s, [b] => endAround (s + b.toNat * 256)
  | s, b :: c :: bs => csumLoop (endAround (s + (b.toNat * 256 + c.toNat))) bs

/-- `CSUM(b)`, the Internet checksum (R316). -/
def csum (bs : List Byte) : Half := ~~~(BitVec.ofNat 16 (csumLoop 0 bs))

/-- The IPv4 header of an emitted datagram, with a given Header Checksum field (R313). -/
def ipv4Header (n : Nat) (ttl : Byte) (t : Tcb) (checksum : Half) : List Byte :=
  [0x45, 0x00] ++ halfBytes (BitVec.ofNat 16 n) ++ halfBytes 0 ++ halfBytes 0 ++ [ttl, 6]
    ++ halfBytes checksum ++ wordBytes t.tplLaddr ++ wordBytes t.tplRaddr

/-- The TCP header of an emitted datagram, with a given Checksum field (R315). -/
def tcpHeader (t : Tcb) (checksum : Half) : List Byte :=
  wordBytes t.tplPorts ++ wordBytes t.sndNxt ++ wordBytes t.rcvNxt ++ [0x50, t.tplFlags]
    ++ halfBytes t.sndWnd ++ halfBytes checksum ++ halfBytes 0

/-- `PSEUDO(L)`, the IPv4 pseudo-header for a TCP length of `len` (R317). -/
def pseudoHeader (t : Tcb) (len : Nat) : List Byte :=
  wordBytes t.tplLaddr ++ wordBytes t.tplRaddr ++ [0, 6] ++ halfBytes (BitVec.ofNat 16 len)

/-- The datagram EMIT builds from the TCB as it stands: both headers with their checksums, each taken with
its own field at 0, cut to `n` bytes (R310, R314, R317). -/
def datagram (n : Nat) (ttl : Byte) (t : Tcb) : List Byte :=
  (ipv4Header n ttl t (csum (ipv4Header n ttl t 0))
    ++ tcpHeader t (csum (pseudoHeader t (n - 20) ++ tcpHeader t 0))).take n

/-- If SYN was sent, SND_NXT advances by 1 and TPL_FLAGS.SYN is cleared (R318). -/
def Tcb.afterSyn (t : Tcb) (sent : Byte) : Tcb :=
  if synFlag sent then { t with sndNxt := t.sndNxt + 1, tplFlags := t.tplFlags &&& 0xFD } else t

/-- If FIN was sent, SND_NXT advances by 1 and TPL_FLAGS.FIN is cleared (R318). -/
def Tcb.afterFin (t : Tcb) (sent : Byte) : Tcb :=
  if finFlag sent then { t with sndNxt := t.sndNxt + 1, tplFlags := t.tplFlags &&& 0xFE } else t

/-- SND_NXT advances by the payload bytes sent, which are none (R310, R311). -/
def Tcb.afterPayload (t : Tcb) (n : Nat) : Tcb :=
  { t with sndNxt := t.sndNxt + BitVec.ofNat 32 (n - 40) }

/-- The sequence bookkeeping after an emission, by the flags sent (R318). -/
def Tcb.afterEmission (t : Tcb) : Tcb :=
  ((t.afterSyn t.tplFlags).afterFin t.tplFlags).afterPayload datagramLen

/-- `EMIT()` (R310). It cannot fail (R322). -/
def emit (s : State) : State :=
  (s.withDatagram datagramLen (datagram datagramLen Config.pTtl s.tcb)).withTcb s.tcb.afterEmission

end Sys2Proof.Machine
end

