-- ==== Sys2Proof/Machine/Frame.lean ====
section
/-! DEFINITION. PARSE_FRAME, the frame validator that PARSE, SYNRCV and SEGMENT share, and the PARSE command
(45_frame.md). -/

namespace Sys2Proof.Machine

/-- The view of a frame that passes every check, for an IPv4 header of `hlen` bytes, Total Length `tl` and
a TCP header of `dlen` bytes (R390, R397). -/
def viewOf (rx : Nat → Byte) (hlen tl thlen : Nat) : View where
  saddr := word32 rx 16
  daddr := word32 rx 20
  proto := 6
  plen := BitVec.ofNat 16 (tl - hlen)
  ports := word32 rx (4 + hlen)
  seq := word32 rx (4 + hlen + 4)
  ack := word32 rx (4 + hlen + 8)
  flags := rx (4 + hlen + 13)
  wnd := half16 rx (4 + hlen + 14)
  dlen := BitVec.ofNat 16 (tl - hlen - thlen)
  doff := BitVec.ofNat 16 (4 + hlen + thlen)

/-- Checks 7 and 8 of R400, on the TCP header that starts at `4 + hlen` (R395). -/
def parseTcp (rx : Nat → Byte) (hlen tl : Nat) : Except Status View :=
  if tl - hlen < 20 then .error .malformed
  else
    let doff := highNibble (rx (4 + hlen + 12))
    if doff < 5 ∨ 4 * doff > tl - hlen then .error .malformed
    else .ok (viewOf rx hlen tl (4 * doff))

/-- Checks 3 to 6 of R400, on the IPv4 header that starts at frame byte 4 (R393, R394). -/
def parseIp (len : Nat) (rx : Nat → Byte) : Except Status View :=
  if len < 24 then .error .malformed
  else
    let hlen := 4 * lowNibble (rx 4)
    let tl := (half16 rx 6).toNat
    if highNibble (rx 4) ≠ 4 ∨ lowNibble (rx 4) < 5 ∨ len < 4 + hlen then .error .malformed
    else if tl < hlen ∨ 4 + tl > len then .error .malformed
    else if rx 13 ≠ 6 then .error .ignored
    else parseTcp rx hlen tl

/-- PARSE_FRAME's verdict on a frame of `len` bytes `rx`: the view, or the status of the first check that
fails (R390, R400). Checks 1 and 2 stand here (R391, R392). -/
def frameView (len : Nat) (rx : Nat → Byte) : Except Status View :=
  if len < 4 ∨ len > Config.pRxMax then .error .malformed
  else if half16 rx 2 ≠ 0x0800 then .error .ignored
  else parseIp len rx

/-- PARSE_FRAME's verdict on the frame in RXBUF. -/
def State.frame (s : State) : Except Status View := frameView s.rxlen.toNat s.rx

/-- `PARSE_FRAME()` (R390): on success every view register and V_VALID = 1; on failure V_VALID = 0 and
the raise (R396). -/
def parseFrame (s : State) : Flow :=
  match s.frame with
  | .ok v => .go (s.withView v)
  | .error c => .raise c s.withoutView

/-- PARSE: validate the frame in RXBUF and fill in the view registers (R399). -/
def execParse (s : State) : Host.Outcome State Fault Refusal :=
  .next (parseFrame s.startCommand).finish

end Sys2Proof.Machine
end

