-- ==== Sys2Proof/Machine/Accept.lean ====
section
/-! DEFINITION. SYNRCV, which creates the TCB from an inbound SYN, and RELEASE, which destroys it
(44_accept.md). -/

namespace Sys2Proof.Machine

/-- The TCB group as SYNRCV initialises it, before its EMIT (R350, R354). STATE is still Closed. -/
def openedTcb (iss : Word) (initWnd : Half) (v : View) : Tcb where
  state := .closed
  sndIss := iss
  sndUna := iss
  sndNxt := iss
  sndWnd := initWnd
  sndUp := false
  sndWl1 := 0
  sndWl2 := 0
  rcvIrs := v.seq
  rcvNxt := v.seq + 1
  rcvWnd := v.wnd
  rcvUp := false
  tplLaddr := v.daddr
  tplRaddr := v.saddr
  tplPorts := swapPorts v.ports
  tplFlags := 0x12

/-- `x[STATE] <- st`. -/
def State.enter (s : State) (st : TcbState) : State := s.withTcb { s.tcb with state := st }

/-- Create the TCB, send the SYN+ACK and enter SynReceived (R350, R355). -/
def openConnection (s : State) : State :=
  (emit (s.withTcb (openedTcb s.synIss s.initWnd s.view))).enter .synReceived

/-- SYNRCV after its PARSE_FRAME: BUSY unless Closed (R352), then NOT_SYN without a SYN flag (R353). -/
def synrcvBody (s : State) : Flow :=
  if s.tcb.state ≠ .closed then .raise .busy s
  else if synFlag s.view.flags = false then .raise .notSyn s
  else .go (openConnection s)

/-- SYNRCV: create the TCB from the inbound SYN in RXBUF and send the SYN+ACK (R350). -/
def execSynrcv (s : State) : Host.Outcome State Fault Refusal :=
  .next ((parseFrame s.startCommand).andThen synrcvBody).finish

/-- RELEASE: every register of the TCB group becomes 0 (R359). -/
def execRelease (s : State) : Host.Outcome State Fault Refusal :=
  .next (s.startCommand.withTcb .cleared).endCommand

end Sys2Proof.Machine
end

