-- ==== Sys2Proof/Machine/Flags.lean ====
section
/-! DEFINITION. The verdicts of the SSCU: the circular comparison (40_seqmath.md R200), the acceptability
function (41_acceptability.md R230 to R232) and the ACK check (42_segment.md R266). -/

namespace Sys2Proof.Machine

/-- `zext_32` of a one-bit value. -/
def flagWord (b : Bool) : Word := (BitVec.ofBool b).setWidth 32

/-- `BETWEEN(s, x, e)`, by the three cases of the source's formula (R200). -/
def between (s x e : Word) : Bool :=
  if s = x then false
  else if s < x then !(decide (s ≤ e) && decide (e ≤ x))
  else decide (e < s) && decide (x < e)

/-- The sequence length of a segment (R230). -/
def seqLength (dataLen : Half) (syn fin : Bool) : Word :=
  dataLen.setWidth 32 + flagWord fin + flagWord syn

/-- The window end, `recv.nxt +w zext_32(recv.wnd)` (R231). -/
def windowEnd (nxt : Word) (wnd : Half) : Word := nxt + wnd.setWidth 32

/-- What `ACC` returns (R232). -/
structure Acc where
  /-- The verdict. -/
  ok : Bool
  /-- The sequence length. -/
  slen : Word
  /-- The window end. -/
  wend : Word
  deriving DecidableEq, Repr

/-- The verdict of `ACC` for a segment of sequence length `slen` (the four rows of the R232 table). -/
def accVerdict (seqn slen nxt : Word) (wnd : Half) : Bool :=
  if slen = 0 then
    if wnd = 0 then seqn == nxt
    else between (nxt - 1) seqn (windowEnd nxt wnd)
  else
    if wnd = 0 then false
    else between (nxt - 1) seqn (windowEnd nxt wnd)
      || between (nxt - 1) (seqn + slen - 1) (windowEnd nxt wnd)

/-- `ACC(seqn, data_len, syn, fin, nxt, wnd)` (R232). -/
def acc (seqn : Word) (dataLen : Half) (syn fin : Bool) (nxt : Word) (wnd : Half) : Acc where
  ok := accVerdict seqn (seqLength dataLen syn fin) nxt wnd
  slen := seqLength dataLen syn fin
  wend := windowEnd nxt wnd

/-- `ackok`: the segment has ACK and `ackn` lies from SND_UNA to SND_NXT (R266). -/
def ackOk (t : Tcb) (v : View) : Bool :=
  ackFlag v.flags && between (t.sndUna - 1) v.ack (t.sndNxt + 1)

end Sys2Proof.Machine
end

