-- ==== Sys2Proof/Machine/Acceptability.lean ====
section
/-! DEFINITION. The ACCEPTABLE command (41_acceptability.md R233). -/

namespace Sys2Proof.Machine

/-- Write an acceptability evaluation's results to SLEN, WEND and RES (R233, 42_segment.md R263). -/
def State.recordAcc (s : State) (a : Acc) : State := s.withAcc a.ok a.slen a.wend

/-- ACCEPTABLE: `ACC` on the host's operands (R233). -/
def execAcceptable (syn fin : Bool) (s : State) : Host.Outcome State Fault Refusal :=
  .next ((s.startCommand.recordAcc
    (acc s.acceptSeqn s.acceptDataLen syn fin s.acceptNxt s.acceptWnd)).endCommand)

end Sys2Proof.Machine
end

