-- ==== Sys2Proof/Machine/Segment.lean ====
section
/-! DEFINITION. SEGMENT, which processes an inbound segment in the stages S0 to S7, and CLOSE (42_segment.md). -/

namespace Sys2Proof.Machine

/-- `ACC` on the segment in the view registers, with RCV_NXT and RCV_WND (R263). -/
def segmentAcc (t : Tcb) (v : View) : Acc :=
  acc v.seq v.dlen (synFlag v.flags) (finFlag v.flags) t.rcvNxt t.rcvWnd

/-- Stage S3: `x[RCV_NXT] <- seqn +w slen` (R264). -/
def stageAdvance (s : State) : State :=
  s.withTcb { s.tcb with rcvNxt := s.view.seq + (segmentAcc s.tcb s.view).slen }

/-- Stage S4: an acceptable ACK takes SynReceived to Established (R265). -/
def stageEstablish (ackok : Bool) (s : State) : State :=
  if ackok = true ∧ s.tcb.state = .synReceived then s.enter .established else s

/-- Set FIN in the template, send FIN+ACK and enter FinWait1 (R267, R280). -/
def sendFin (s : State) : State :=
  (emit (s.withTcb { s.tcb with tplFlags := s.tcb.tplFlags ||| 0x01 })).enter .finWait1

/-- The states whose SND_UNA an acceptable ACK updates (R267). -/
def TcbState.takesAck : TcbState → Bool
  | .established | .finWait1 | .finWait2 => true
  | .closed | .synReceived | .timeWait => false

/-- Stage S5: an acceptable ACK updates SND_UNA, and in Established with AUTOCLOSE sends FIN (R267). -/
def stageAck (ackok : Bool) (s : State) : State :=
  if ackok = true ∧ s.tcb.state.takesAck = true then
    let s1 := s.withTcb { s.tcb with sndUna := s.view.ack }
    if s1.tcb.state = .established ∧ s1.autoclose = true then sendFin s1 else s1
  else s

/-- Stage S6: FinWait1 becomes FinWait2 when `x[SND_UNA] == x[SND_ISS] +w 2` (R268). -/
def stageFinAcked (s : State) : State :=
  if s.tcb.state = .finWait1 ∧ s.tcb.sndUna = s.tcb.sndIss + 2 then s.enter .finWait2 else s

/-- Stage S7: a FIN in FinWait2 is acknowledged and enters TimeWait; in any other state it is a protocol
violation (R269). -/
def stageFin (s : State) : Flow :=
  if finFlag s.view.flags = true then
    if s.tcb.state = .finWait2 then .go ((emit s).enter .timeWait)
    else .raise .protocolViolation s
  else .go s

/-- Stages S4 to S7, with the ACK check made once, before S4 (R266, R270). -/
def segmentCascade (s : State) : Flow :=
  stageFin (stageFinAcked (stageAck (ackOk s.tcb s.view)
    (stageEstablish (ackOk s.tcb s.view) s)))

/-- SEGMENT after its PARSE_FRAME: stages S1 (R262), S2 (R263), and S3 to S7 for an acceptable segment. -/
def segmentBody (s : State) : Flow :=
  if s.tcb.state = .closed then .raise .closedIgnored s
  else
    let a := segmentAcc s.tcb s.view
    let s2 := s.recordAcc a
    if a.ok = false then .raise .unacceptable (emit s2)
    else segmentCascade (stageAdvance s2)

/-- SEGMENT: process the inbound frame in RXBUF against the TCB (R260). Stage S0 sets RES to 0 and runs
PARSE_FRAME (R261). -/
def execSegment (s : State) : Host.Outcome State Fault Refusal :=
  .next ((parseFrame (s.startCommand.withRes false)).andThen segmentBody).finish

/-- CLOSE after the start bookkeeping: only in Established does it send FIN (R280). -/
def closeBody (s : State) : Flow :=
  if s.tcb.state = .closed then .raise .closedIgnored s
  else if s.tcb.state ≠ .established then .raise .protocolViolation s
  else .go (sendFin s)

/-- CLOSE: request an orderly close of an Established connection (R280). -/
def execClose (s : State) : Host.Outcome State Fault Refusal :=
  .next (closeBody s.startCommand).finish

end Sys2Proof.Machine
end

