-- ==== Sys2Proof/Machine/Seqmath.lean ====
section
/-! DEFINITION. The BETWEEN command (40_seqmath.md R205). -/

namespace Sys2Proof.Machine

/-- BETWEEN: `x[RES] <- zext_32(BETWEEN(x[OPA], x[OPB], x[OPC]))` (R205). -/
def execBetween (s : State) : Host.Outcome State Fault Refusal :=
  .next ((s.startCommand.withRes
    (between s.betweenStart s.betweenPoint s.betweenEnd)).endCommand)

end Sys2Proof.Machine
end

