-- ==== Sys2Proof/Machine/Dispatch.lean ====
section
/-! DEFINITION. One arm for each command (30_encoding.md R144). -/

namespace Sys2Proof.Machine

def exec (i : Instr) (s : State) : Host.Outcome State Fault Refusal :=
  match i with
  | .between => Sys2Proof.Machine.execBetween s
  | .acceptable syn fin => Sys2Proof.Machine.execAcceptable syn fin s
  | .parse => Sys2Proof.Machine.execParse s
  | .synrcv => Sys2Proof.Machine.execSynrcv s
  | .segment => Sys2Proof.Machine.execSegment s
  | .release => Sys2Proof.Machine.execRelease s
  | .close => Sys2Proof.Machine.execClose s

end Sys2Proof.Machine
end

