-- ==== Sys2Proof/Machine/Bus.lean ====
section
/-! DEFINITION. The host's accesses: the register map as the host reads and writes it (10_state.md R72 to R74),
buffer space (20_memory.md R103 to R105), the write to CMD that starts a command (10_state.md R37), and
reset (70_reset_and_hazards.md R480 to R482). -/

namespace Sys2Proof.Machine

/-- CFG as the host reads it: INIT_WND in 15:0, AUTOCLOSE in 16, zeros above (R43). -/
def cfgWord (initWnd : Half) (autoclose : Bool) : Word :=
  (BitVec.ofBool autoclose ++ initWnd).setWidth 32

/-- The 32-bit word the host reads from a register; bits a register does not hold read as zero (R72). -/
def State.readReg (s : State) : Reg → Word
  | .cmd => s.cmd
  | .status => s.status.code.setWidth 32
  | .sticky => s.sticky.setWidth 32
  | .res => flagWord s.res
  | .opa => s.opa
  | .opb => s.opb
  | .opc => s.opc
  | .rxlen => s.rxlen.setWidth 32
  | .txlen => s.txlen.setWidth 32
  | .txvalid => flagWord s.txvalid
  | .cfg => cfgWord s.initWnd s.autoclose
  | .slen => s.slen
  | .wend => s.wend
  | .state => s.tcb.state.code.setWidth 32
  | .sndUna => s.tcb.sndUna
  | .sndNxt => s.tcb.sndNxt
  | .sndWnd => s.tcb.sndWnd.setWidth 32
  | .sndUp => flagWord s.tcb.sndUp
  | .sndWl1 => s.tcb.sndWl1
  | .sndWl2 => s.tcb.sndWl2
  | .sndIss => s.tcb.sndIss
  | .rcvNxt => s.tcb.rcvNxt
  | .rcvWnd => s.tcb.rcvWnd.setWidth 32
  | .rcvUp => flagWord s.tcb.rcvUp
  | .rcvIrs => s.tcb.rcvIrs
  | .tplLaddr => s.tcb.tplLaddr
  | .tplRaddr => s.tcb.tplRaddr
  | .tplPorts => s.tcb.tplPorts
  | .tplFlags => s.tcb.tplFlags.setWidth 32
  | .vValid => flagWord s.vValid
  | .vSaddr => s.view.saddr
  | .vDaddr => s.view.daddr
  | .vProto => s.view.proto.setWidth 32
  | .vPlen => s.view.plen.setWidth 32
  | .vPorts => s.view.ports
  | .vSeq => s.view.seq
  | .vAck => s.view.ack
  | .vWnd => s.view.wnd.setWidth 32
  | .vFlags => s.view.flags.setWidth 32
  | .vDlen => s.view.dlen.setWidth 32
  | .vDoff => s.view.doff.setWidth 32

/-- A host read of a register number: 0 at a reserved number (R73). -/
def State.readRegNo (s : State) (n : RegNo) : Word :=
  match Reg.ofNumber n with
  | some r => s.readReg r
  | none => 0

/-- A host read of a buffer address: 0 where there is no storage (20_memory.md R104, R105). -/
def State.readBufAddr (s : State) (a : BufAddr) : Byte :=
  if inRxbuf a.toNat || inTxbuf a.toNat then s.bufByte a.toNat else 0

/-- A host write of a buffer address: only RXBUF takes it (R104, R105). -/
def State.writeBufAddr (s : State) (a : BufAddr) (b : Byte) : State :=
  if inRxbuf a.toNat then { s with buf := s.buf.setByte a.toNat b } else s

/-- An illegal command word: command-start bookkeeping, then `raise Status(ILLEGAL_CMD)`, and nothing else
(30_encoding.md R143, 60_exceptions.md R453). -/
def illegalCommand (s : State) : State := s.startCommand.raiseStatus .illegalCmd

/-- A host write to CMD: store the word, then perform the command it encodes (R37, R442). -/
def writeCmd (w : Word) (s : State) : Host.Outcome State Fault Refusal :=
  match decode w with
  | .ok i => exec i (s.withCmd w)
  | .error _ => .next (illegalCommand (s.withCmd w))

/-- A host write to a register other than CMD: the writable ones store the bits they hold, and a write to
a read-only one is ignored (R34, R40, R43, R74). -/
def State.storeReg (s : State) (r : Reg) (v : Word) : State :=
  match r with
  | .opa => { s with opa := v }
  | .opb => { s with opb := v }
  | .opc => { s with opc := v }
  | .rxlen => { s with rxlen := v.extractLsb' 0 16 }
  | .cfg => { s with initWnd := v.extractLsb' 0 16, autoclose := v.getLsbD 16 }
  | _ => s

/-- A host write to a register number (R37, R73, R74). -/
def writeRegNo (n : RegNo) (v : Word) (s : State) : Host.Outcome State Fault Refusal :=
  match Reg.ofNumber n with
  | some .cmd => writeCmd v s
  | some r => .next (s.storeReg r v)
  | none => .next s

/-- Reset: every register to its reset value, and buffers whose bytes are new draws. What the host still
has to do, and what it has read, are the host's (R480 to R482; log 7). -/
def State.afterReset (s : State) : State :=
  { State.reset with
    resetCount := s.resetCount + 1
    pending := s.pending
    returned := s.returned }

/-- Perform one host event (30_encoding.md R151, 70_reset_and_hazards.md R481). -/
def perform (e : HostEvent) (s : State) : Host.Outcome State Fault Refusal :=
  match e with
  | .readReg n => .next (s.withReturned (.word (s.readRegNo n)))
  | .writeReg n v => writeRegNo n v s
  | .readBuf a => .next (s.withReturned (.byte (s.readBufAddr a)))
  | .writeBuf a b => .next (s.writeBufAddr a b)
  | .reset => .next s.afterReset

end Sys2Proof.Machine
end

