-- ==== Sys2Proof/Machine/Step.lean ====
section
/-! DEFINITION. One step: the next host event, or nothing while the host does nothing (60_exceptions.md R466;
log 1, log 8). -/

namespace Sys2Proof.Machine

/-- One step of the SSCU: take the first pending host event and perform it; with none pending the unit is
idle and holds its state (R32, R466). -/
def step (s : State) : Host.Outcome State Fault Refusal :=
  match s.pending with
  | [] => .next s
  | e :: es => perform e (s.withPending es)

/-- The state whose next step runs the command word `w`: the host's next access is a write of that word to
CMD (10_state.md R37; log 1). -/
def State.withFetchWord (s : State) (nbits w : Nat) : State :=
  s.withPending (.writeReg Reg.cmd.number (BitVec.ofNat 32 (w % 2 ^ nbits)) :: s.pending)

end Sys2Proof.Machine
end

