-- ==== Sys2Proof/Safety.lean ====
section
/-! DEFINITION. What the claims about the SSCU speak of: the invariants its state keeps, and the spec's own tables
of frame checks (45_frame.md R400) and of transitions (42_segment.md R282), written down as the spec gives
them. -/

namespace Sys2Proof.Machine

/-! The invariants. -/

/-- How SND_UNA and SND_NXT stand to SND_ISS in each state; with no TCB every register of the group is 0.
Wherever a TCB exists it gives the bound of 10_state.md R59, `(SND_NXT -w SND_UNA) <= 2`. -/
def Tcb.sendSpaceOk (t : Tcb) : Prop :=
  match t.state with
  | .closed => t = Tcb.cleared
  | .synReceived => t.sndUna = t.sndIss ∧ t.sndNxt = t.sndIss + 1
  | .established => (t.sndUna - t.sndIss).toNat ≤ 1 ∧ t.sndNxt = t.sndIss + 1
  | .finWait1 => (t.sndUna - t.sndIss).toNat ≤ 1 ∧ t.sndNxt = t.sndIss + 2
  | .finWait2 => t.sndUna = t.sndIss + 2 ∧ t.sndNxt = t.sndIss + 2
  | .timeWait => t.sndUna = t.sndIss + 2 ∧ t.sndNxt = t.sndIss + 2

/-- The TCB group outside a command: its send space, TPL_FLAGS 0x10 whenever a TCB exists (10_state.md R57),
and the registers no rule ever sets to anything but 0 (R48, R49, R53). -/
structure Tcb.Inv (t : Tcb) : Prop where
  sendSpace : t.sendSpaceOk
  flags : t.state ≠ .closed → t.tplFlags = 0x10
  sndUp : t.sndUp = false
  sndWl1 : t.sndWl1 = 0
  sndWl2 : t.sndWl2 = 0
  rcvUp : t.rcvUp = false

/-- STATUS and STICKY: the reserved codes 5 and 6 are never reported (60_exceptions.md R450, R451), STICKY bit 0
is 0 (10_state.md R39), the last command's code is in STICKY unless it is OK (R445), and SLEN is at most
65537 (41_acceptability.md R230). -/
structure State.ReportInv (s : State) : Prop where
  notChecksum : s.status ≠ .checksumFailure
  notTransport : s.status ≠ .transportError
  recorded : s.status ≠ .ok → s.sticky.getLsbD s.status.code.toNat = true
  bit0 : s.sticky.getLsbD 0 = false
  bit5 : s.sticky.getLsbD 5 = false
  bit6 : s.sticky.getLsbD 6 = false
  slen : s.slen.toNat ≤ 65537

/-- The view registers: V_PROTO is 0 until a frame has been parsed and 6 after (10_state.md R63), and a valid
view's TCP header and payload lie inside RXBUF (45_frame.md R395, R397). -/
structure State.ViewInv (s : State) : Prop where
  proto : s.view.proto = 0 ∨ s.view.proto = 6
  validProto : s.vValid = true → s.view.proto = 6
  header : s.vValid = true → 20 ≤ s.view.plen.toNat ∧ s.view.dlen.toNat + 20 ≤ s.view.plen.toNat
  payload : s.vValid = true →
    44 ≤ s.view.doff.toNat ∧ s.view.doff.toNat + s.view.dlen.toNat ≤ Config.pRxMax

/-- Buffer space and its registers: the canonical form, TXLEN 0 before the first emission and 40 after
(43_emit.md R312), TXVALID only with a datagram and a TCB, and TXBUF bytes 0 to 39 written once anything has
been emitted (20_memory.md R120). -/
structure State.BufferInv (s : State) : Prop where
  form : s.buf.wf
  txlen : s.txlen = 0 ∨ s.txlen = 40
  txvalid : s.txvalid = true → s.txlen = 40 ∧ s.tcb.state ≠ .closed
  written : s.txlen = 40 → ∀ i, i < 40 → (s.buf.byteAt (txBase + i)).isSome = true

/-- What every run of the SSCU keeps: a state is safe when all four parts hold. -/
structure State.Inv (s : State) : Prop where
  tcb : s.tcb.Inv
  report : s.ReportInv
  view : s.ViewInv
  buffer : s.BufferInv

/-! The frame checks of 45_frame.md R400. -/

/-- The eight checks in order, each as whether it passes and the status if it fails. -/
def frameChecks (len : Nat) (rx : Nat → Byte) : List (Bool × Status) :=
  let ihl := (rx 4).toNat % 16
  let total := (rx 6).toNat * 256 + (rx 7).toNat
  let offset := (rx (4 + 4 * ihl + 12)).toNat / 16
  [ (decide (4 ≤ len) && decide (len ≤ Config.pRxMax), .malformed),
    (rx 2 == 0x08 && rx 3 == 0x00, .ignored),
    (decide (24 ≤ len), .malformed),
    ((rx 4).toNat / 16 == 4 && decide (5 ≤ ihl) && decide (4 + 4 * ihl ≤ len), .malformed),
    (decide (4 * ihl ≤ total) && decide (4 + total ≤ len), .malformed),
    (rx 13 == 6, .ignored),
    (decide (20 ≤ total - 4 * ihl), .malformed),
    (decide (5 ≤ offset) && decide (4 * offset ≤ total - 4 * ihl), .malformed) ]

/-- The status of the first check that fails; none if all pass. -/
def firstFailure : List (Bool × Status) → Option Status
  | [] => none
  | (true, _) :: cs => firstFailure cs
  | (false, c) :: _ => some c

/-! The transition table of 42_segment.md R282. -/

/-- A row's outcome: STATE at the end, the flags of the segment emitted (none if nothing is), STATUS. -/
structure SegmentRow where
  state : TcbState
  emits : Option Byte
  status : Status
  deriving DecidableEq, Repr

/-- The R282 table: STATE at S3, ackok, AUTOCLOSE, whether `ackn == SND_ISS +w 2`, and the FIN flag. The
flags byte is 0x11 for FIN+ACK and 0x10 for ACK. A Closed TCB has no row; it is given an unchanging one. -/
def segmentRow (st : TcbState) (ackok autoclose ack2 fin : Bool) : SegmentRow :=
  match st, ackok, autoclose, fin with
  | .synReceived, false, _, false => ⟨.synReceived, none, .ok⟩
  | .synReceived, false, _, true => ⟨.synReceived, none, .protocolViolation⟩
  | .synReceived, true, false, false => ⟨.established, none, .ok⟩
  | .synReceived, true, false, true => ⟨.established, none, .protocolViolation⟩
  | .synReceived, true, true, false => ⟨.finWait1, some 0x11, .ok⟩
  | .synReceived, true, true, true => ⟨.finWait1, some 0x11, .protocolViolation⟩
  | .established, false, _, false => ⟨.established, none, .ok⟩
  | .established, false, _, true => ⟨.established, none, .protocolViolation⟩
  | .established, true, false, false => ⟨.established, none, .ok⟩
  | .established, true, false, true => ⟨.established, none, .protocolViolation⟩
  | .established, true, true, false => ⟨.finWait1, some 0x11, .ok⟩
  | .established, true, true, true => ⟨.finWait1, some 0x11, .protocolViolation⟩
  | .finWait1, ackok, _, false =>
    if ackok && ack2 then ⟨.finWait2, none, .ok⟩ else ⟨.finWait1, none, .ok⟩
  | .finWait1, ackok, _, true =>
    if ackok && ack2 then ⟨.timeWait, some 0x10, .ok⟩ else ⟨.finWait1, none, .protocolViolation⟩
  | .finWait2, _, _, false => ⟨.finWait2, none, .ok⟩
  | .finWait2, _, _, true => ⟨.timeWait, some 0x10, .ok⟩
  | .timeWait, _, _, false => ⟨.timeWait, none, .ok⟩
  | .timeWait, _, _, true => ⟨.timeWait, none, .protocolViolation⟩
  | .closed, _, _, _ => ⟨.closed, none, .closedIgnored⟩

/-- STICKY after a command that ends with a status (60_exceptions.md R445). -/
def stickyAfter (sticky : BitVec 11) (c : Status) : BitVec 11 :=
  if c = .ok then sticky else sticky ||| (1#11 <<< c.code.toNat)

/-- What an emission leaves in buffer space: TXBUF bytes 0 to 39 are the datagram built from the TCB `t`, and
every other byte is as before (43_emit.md R310, R323). -/
def emittedInto (s s' : State) (t : Tcb) : Prop :=
  (∀ i, i < 40 → some (s'.bufByte (txBase + i)) = (datagram 40 Config.pTtl t)[i]?) ∧
  ∀ a, ¬(txBase ≤ a ∧ a < txBase + 40) → s'.bufByte a = s.bufByte a

/-- The sum of the 16-bit big-endian words of a byte string, an odd last byte padded with a zero low byte
(43_emit.md R316, steps 1 and 2, before any carry is folded). -/
def wordSum : List Byte → Nat
  | [] => 0
  | [b] => b.toNat * 256
  | b :: c :: bs => b.toNat * 256 + c.toNat + wordSum bs

/-- Buffer space reads as before at every address. -/
def buffersKept (s s' : State) : Prop := ∀ a, s'.bufByte a = s.bufByte a

end Sys2Proof.Machine
end

