-- ==== Sys2Proof/Certificates/Slice0/Obligations.lean ====
section
/-! DEFINITION. The statements about the SSCU that are put to the provers, one `def Obligations.<Name> : Prop` each.
A docstring names the rule or the section of the spec the statement formalises; where the clause rests on
an inference the spec marks as its own ("derived") or on a choice of the model, it says so. -/

open Sys2Proof Sys2Proof.Machine

/-! Encoding (30_encoding.md). -/

/-- Every command word: the decoder reads an instruction from it exactly when it is that instruction's word.
So decoding undoes encoding for all operands, and no other word decodes (30_encoding.md section 1). -/
def Obligations.DecodeExactlyInvertsEncode : Prop :=
  ∀ (w : Word) (i : Instr), decode w = .ok i ↔ w = encode i

/-- The opcode map over all words: a word selects a command when `(word & mask) == match`
(30_encoding.md section 1, the R144 table). -/
def Obligations.OpcodeMapMaskAndMatch : Prop :=
  ∀ w : Word,
    (decode w = .ok .between ↔ w &&& 0xFFFFFFFF = 0x00000001) ∧
    ((∃ syn fin, decode w = .ok (.acceptable syn fin)) ↔ w &&& 0xFFFFFCFF = 0x00000002) ∧
    (decode w = .ok .parse ↔ w &&& 0xFFFFFFFF = 0x00000003) ∧
    (decode w = .ok .synrcv ↔ w &&& 0xFFFFFFFF = 0x00000004) ∧
    (decode w = .ok .segment ↔ w &&& 0xFFFFFFFF = 0x00000005) ∧
    (decode w = .ok .release ↔ w &&& 0xFFFFFFFF = 0x00000006) ∧
    (decode w = .ok .close ↔ w &&& 0xFFFFFFFF = 0x00000007)

/-- R142: CMD[8] is `syn` and CMD[9] is `fin` for ACCEPTABLE; every other command has no operand in its word,
so it has one word only. -/
def Obligations.AcceptableCarriesSynAndFin : Prop :=
  (∀ (w : Word) (syn fin : Bool), decode w = .ok (.acceptable syn fin) →
    w.extractLsb' 0 8 = 2 ∧ syn = w.getLsbD 8 ∧ fin = w.getLsbD 9) ∧
  ∀ (w w' : Word) (i : Instr), decode w = .ok i → decode w' = .ok i → w = w'

/-- R143 and R453: an illegal word performs the command-start bookkeeping and raises ILLEGAL_CMD, and changes
nothing else; CMD holds the word. A word that is not illegal by the three cases decodes. -/
def Obligations.IllegalWordRaisesIllegalCmd : Prop :=
  ∀ (s : State) (w : Word),
    if w.extractLsb' 10 22 ≠ 0 ∨ (w.extractLsb' 8 2 ≠ 0 ∧ w.extractLsb' 0 8 ≠ 2)
        ∨ ¬(1 ≤ (w.extractLsb' 0 8).toNat ∧ (w.extractLsb' 0 8).toNat ≤ 7) then
      perform (.writeReg 0x00 w) s =
        .next { s with
          cmd := w, status := .illegalCmd, txvalid := false, sticky := s.sticky ||| 0x400 }
    else ∃ i, decode w = .ok i

/-- The words of the opcode table, bit by bit, decode to their rows' commands (30_encoding.md section 1). -/
def Obligations.TableWordsDecode : Prop :=
  decodeTableWord 32 0b00000000000000000000000000000001 = some .between ∧
  decodeTableWord 32 0b00000000000000000000000000000010 = some (.acceptable false false) ∧
  decodeTableWord 32 0b00000000000000000000000100000010 = some (.acceptable true false) ∧
  decodeTableWord 32 0b00000000000000000000001000000010 = some (.acceptable false true) ∧
  decodeTableWord 32 0b00000000000000000000001100000010 = some (.acceptable true true) ∧
  decodeTableWord 32 0b00000000000000000000000000000011 = some .parse ∧
  decodeTableWord 32 0b00000000000000000000000000000100 = some .synrcv ∧
  decodeTableWord 32 0b00000000000000000000000000000101 = some .segment ∧
  decodeTableWord 32 0b00000000000000000000000000000110 = some .release ∧
  decodeTableWord 32 0b00000000000000000000000000000111 = some .close

/-! Steps and host accesses (10_state.md sections 1, 2 and 5; 20_memory.md). -/

/-- A host write of a legal word to CMD stores the word and performs the command it encodes (10_state.md
section 2, CMD). That the next access stands first in `pending` is the model's choice, log 1. -/
def Obligations.StepRunsDecodedCommand : Prop :=
  ∀ (s : State) (es : List HostEvent) (w : Word) (i : Instr),
    s.pending = .writeReg 0x00 w :: es → decode w = .ok i →
      step s = exec i { s with pending := es, cmd := w }

/-- Host events are performed one at a time in the order issued, and with none the unit holds its state
(10_state.md section 1; 60_exceptions.md section 4). `pending` is the model's choice, logs 1 and 8. -/
def Obligations.StepTakesEventsInOrder : Prop :=
  ∀ (s : State) (e : HostEvent) (es : List HostEvent),
    (s.pending = [] → step s = .next s) ∧
    (s.pending = e :: es → step s = perform e { s with pending := es })

/-- No condition stops the unit: every step answers a next state (60_exceptions.md section 1;
20_memory.md section 4). -/
def Obligations.EveryStepAnswersNext : Prop :=
  ∀ s : State, ∃ t, step s = .next t

/-- A reserved register number reads 0, ignores writes, and has no other effect (10_state.md section 5, the
reserved numbers). That a read's data goes to `returned` is the model's choice, log 2. -/
def Obligations.ReservedRegistersReadZero : Prop :=
  ∀ (s : State) (n : RegNo) (v : Word),
    (0x0D ≤ n.toNat ∧ n.toNat ≤ 0x0F) ∨ 0x2C ≤ n.toNat →
      perform (.readReg n) s = .next { s with returned := .word 0 :: s.returned } ∧
      perform (.writeReg n v) s = .next s

/-- R74: a host write to a read-only register is ignored and has no other effect, so among host accesses only
a command changes the TCB group and the view registers (reset is no host access). -/
def Obligations.ReadOnlyRegistersIgnoreWrites : Prop :=
  (∀ (s : State) (r : Reg) (v : Word), r ∉ [Reg.cmd, .opa, .opb, .opc, .rxlen, .cfg] →
    perform (.writeReg r.number v) s = .next s) ∧
  ∀ (s t : State) (e : HostEvent), perform e s = .next t →
    e ≠ .reset → (∀ w, e ≠ .writeReg 0x00 w) →
      t.tcb = s.tcb ∧ t.view = s.view ∧ t.vValid = s.vValid

/-- The writable registers other than CMD store the bits they hold, the host reads them back, other bits
reading as zero, and nothing else changes (10_state.md sections 2 and 5). -/
def Obligations.WritableRegistersStore : Prop :=
  ∀ (s : State) (v : Word),
    (perform (.writeReg 0x04 v) s = .next { s with opa := v } ∧
      ({ s with opa := v } : State).readRegNo 0x04 = v) ∧
    (perform (.writeReg 0x05 v) s = .next { s with opb := v } ∧
      ({ s with opb := v } : State).readRegNo 0x05 = v) ∧
    (perform (.writeReg 0x06 v) s = .next { s with opc := v } ∧
      ({ s with opc := v } : State).readRegNo 0x06 = v) ∧
    (∃ t, perform (.writeReg 0x07 v) s = .next t ∧ t = { s with rxlen := t.rxlen } ∧
      t.readRegNo 0x07 = v &&& 0xFFFF) ∧
    ∃ t, perform (.writeReg 0x0A v) s = .next t ∧
      t = { s with initWnd := t.initWnd, autoclose := t.autoclose } ∧
      t.readRegNo 0x0A = v &&& 0x1FFFF

/-- The host reads and writes every RXBUF byte, reads every TXBUF byte, its writes to TXBUF are ignored; an
address with no storage reads 0 and ignores writes (20_memory.md section 1, the host's access rights). That a
read's data goes to `returned` is the model's choice, log 2. -/
def Obligations.BufferAccessRights : Prop :=
  ∀ (s : State) (a : BufAddr) (b : Byte),
    (a.toNat < Config.pRxMax →
      perform (.readBuf a) s = .next { s with returned := .byte (s.bufByte a.toNat) :: s.returned } ∧
      ∃ t, perform (.writeBuf a b) s = .next t ∧ t = { s with buf := t.buf } ∧
        ∀ a', t.bufByte a' = if a' = a.toNat then b else s.bufByte a') ∧
    (0x800 ≤ a.toNat ∧ a.toNat < 0x800 + Config.pMtu →
      perform (.readBuf a) s = .next { s with returned := .byte (s.bufByte a.toNat) :: s.returned } ∧
      perform (.writeBuf a b) s = .next s) ∧
    (Config.pRxMax ≤ a.toNat ∧ ¬(0x800 ≤ a.toNat ∧ a.toNat < 0x800 + Config.pMtu) →
      perform (.readBuf a) s = .next { s with returned := .byte 0 :: s.returned } ∧
      perform (.writeBuf a b) s = .next s)

/-- A host read returns the value of what it reads, has no side effect, and two reads in a row return the same
value (20_memory.md section 2; 30_encoding.md section 3). That the data goes to `returned` is the model's choice,
log 2. What each register holds for the host is RegisterMapReads. -/
def Obligations.HostReadsAreIdempotent : Prop :=
  ∀ (s t u : State) (e : HostEvent) (d : BusData),
    ((∃ n, e = .readReg n ∧ d = .word (s.readRegNo n)) ∨
      ∃ a, e = .readBuf a ∧ d = .byte (s.readBufAddr a)) →
    perform e s = .next t → perform e t = .next u →
      t = { s with returned := d :: s.returned } ∧
        u = { s with returned := d :: d :: s.returned }

/-- The register map as the host reads it, register by register: each number reads the value its register
holds, zero-extended to 32 bits (10_state.md sections 2 to 5); STATE and STATUS read as their codes
(10_state.md section 3; 60_exceptions.md section 1). -/
def Obligations.RegisterMapReads : Prop :=
  ∀ s : State,
    let x : RegNo → Nat := fun n => (s.readRegNo n).toNat
    (x 0x00 = s.cmd.toNat ∧
      x 0x01 = (match s.status with
        | .ok => 0 | .ignored => 1 | .malformed => 2 | .unacceptable => 3 | .protocolViolation => 4
        | .checksumFailure => 5 | .transportError => 6 | .closedIgnored => 7 | .notSyn => 8
        | .busy => 9 | .illegalCmd => 10) ∧
      x 0x02 = s.sticky.toNat ∧ x 0x03 = s.res.toNat ∧
      x 0x04 = s.opa.toNat ∧ x 0x05 = s.opb.toNat ∧ x 0x06 = s.opc.toNat ∧
      x 0x07 = s.rxlen.toNat ∧ x 0x08 = s.txlen.toNat ∧ x 0x09 = s.txvalid.toNat ∧
      x 0x0A = s.initWnd.toNat + 65536 * s.autoclose.toNat ∧
      x 0x0B = s.slen.toNat ∧ x 0x0C = s.wend.toNat) ∧
    (x 0x10 = (match s.tcb.state with
        | .closed => 0 | .synReceived => 1 | .established => 2 | .finWait1 => 3 | .finWait2 => 4
        | .timeWait => 5) ∧
      x 0x11 = s.tcb.sndUna.toNat ∧ x 0x12 = s.tcb.sndNxt.toNat ∧ x 0x13 = s.tcb.sndWnd.toNat ∧
      x 0x14 = s.tcb.sndUp.toNat ∧ x 0x15 = s.tcb.sndWl1.toNat ∧ x 0x16 = s.tcb.sndWl2.toNat ∧
      x 0x17 = s.tcb.sndIss.toNat ∧ x 0x18 = s.tcb.rcvNxt.toNat ∧ x 0x19 = s.tcb.rcvWnd.toNat ∧
      x 0x1A = s.tcb.rcvUp.toNat ∧ x 0x1B = s.tcb.rcvIrs.toNat ∧
      x 0x1C = s.tcb.tplLaddr.toNat ∧ x 0x1D = s.tcb.tplRaddr.toNat ∧
      x 0x1E = s.tcb.tplPorts.toNat ∧ x 0x1F = s.tcb.tplFlags.toNat) ∧
    x 0x20 = s.vValid.toNat ∧ x 0x21 = s.view.saddr.toNat ∧ x 0x22 = s.view.daddr.toNat ∧
    x 0x23 = s.view.proto.toNat ∧ x 0x24 = s.view.plen.toNat ∧ x 0x25 = s.view.ports.toNat ∧
    x 0x26 = s.view.seq.toNat ∧ x 0x27 = s.view.ack.toNat ∧ x 0x28 = s.view.wnd.toNat ∧
    x 0x29 = s.view.flags.toNat ∧ x 0x2A = s.view.dlen.toNat ∧ x 0x2B = s.view.doff.toNat

/-- R480: reset puts every register at the reset value of the R72 table, emits nothing and sets no STICKY bit;
the same registers hold in the state right after reset. -/
def Obligations.ResetSetsEveryRegister : Prop :=
  ∀ (s : State) (n : RegNo), ∃ t,
    perform .reset s = .next t ∧
    t.readRegNo n =
      (if n = 0x0A then 0x10000 ||| Config.pInitWndReset.setWidth 32 else 0) ∧
    State.reset.readRegNo n = t.readRegNo n ∧
    t.status = .ok ∧ t.tcb.state = .closed ∧ t.txvalid = false ∧ t.sticky = 0

/-- After a reset every buffer byte is a draw of that reset (70_reset_and_hazards.md section 1). That a
draw is a constant of the reset's count and the address, the count being 0 in the state right after reset, is the
model's choice, log 3; that reset keeps what the host still has to do and has read is the model's, log 7. -/
def Obligations.ResetBuffersAreDraws : Prop :=
  ∀ (s t : State) (a : Nat), perform .reset s = .next t →
    t.bufByte a = Config.unwrittenByte (s.resetCount + 1) a ∧
    State.reset.bufByte a = Config.unwrittenByte 0 a ∧
    t.pending = s.pending ∧ t.returned = s.returned

/-! The circular comparison (40_seqmath.md). -/

/-- R203: the source's own wraparound examples. -/
def Obligations.BetweenSourceExamples : Prop :=
  between 0xFFFFFFF0 0x00000005 0x00000010 = true ∧
  between 0xFFFFFFF0 0x00000020 0x00000010 = false

/-- The three-case formula and the modular form agree on every input (40_seqmath.md section 1; the spec marks
this as derived). -/
def Obligations.BetweenModularForm : Prop :=
  ∀ s x e : Word, between s x e = (decide (x - s ≠ 0) && decide (x - s < e - s))

/-- The properties of the circular comparison listed in 40_seqmath.md section 1 (the spec marks them as
derived). -/
def Obligations.BetweenRingProperties : Prop :=
  ∀ s x e k a b c : Word,
    between s s e = false ∧
    (a < b → b < c → between a b c = true ∧ between a c b = false) ∧
    between s x x = false ∧
    between s x s = false ∧
    between (s + k) (x + k) (e + k) = between s x e ∧
    ¬(between s x e = true ∧ between s e x = true) ∧
    between 0 0x7FFFFFFF 0x80000000 = true ∧
    between 0 0xFFFFFFFE 0xFFFFFFFF = true

/-- R205: BETWEEN puts the comparison of OPA, OPB and OPC into RES, ends OK with TXVALID 0 and changes nothing
else; its word is 0x00000001, and 0x00000101 is not BETWEEN; the corner cases and the worked example. -/
def Obligations.BetweenCommandResult : Prop :=
  (∀ s : State, exec .between s =
    .next { s with
      status := .ok, txvalid := false, res := between s.opa s.opb s.opc }) ∧
  decode 0x00000001 = .ok .between ∧ (∀ i, decode 0x00000101 ≠ .ok i) ∧
  (∀ a b : Word, between a a a = false ∧ between a b b = false ∧ between a b a = false) ∧
  between 0xFFFFFFFF 0 1 = true ∧ between 0 0xFFFFFFFF 0 = false ∧
  between 0xFFFFFFF0 0x00000005 0x00000010 = true

/-! Acceptability (41_acceptability.md). -/

/-- The sequence length is the data length plus one for SYN and one for FIN, and never wraps
(41_acceptability.md section 1; the spec marks "never wraps" as derived). -/
def Obligations.SeqLengthNeverWraps : Prop :=
  ∀ (d : Half) (syn fin : Bool),
    (seqLength d syn fin).toNat = d.toNat + syn.toNat + fin.toNat ∧
    (seqLength d syn fin).toNat ≤ 65537

/-- R232: `ACC` returns the verdict of the four-row decision table, the sequence length and the window end. -/
def Obligations.AcceptabilityDecisionTable : Prop :=
  ∀ (seqn nxt : Word) (dataLen wnd : Half) (syn fin : Bool),
    let slen : Word := dataLen.setWidth 32 + (if fin then 1 else 0) + (if syn then 1 else 0)
    let wend : Word := nxt + wnd.setWidth 32
    let a := acc seqn dataLen syn fin nxt wnd
    a.slen = slen ∧ a.wend = wend ∧
    (slen = 0 → wnd = 0 → (a.ok = true ↔ seqn = nxt)) ∧
    (slen = 0 → wnd ≠ 0 → a.ok = between (nxt - 1) seqn wend) ∧
    (slen ≠ 0 → wnd = 0 → a.ok = false) ∧
    (slen ≠ 0 → wnd ≠ 0 →
      a.ok = (between (nxt - 1) seqn wend || between (nxt - 1) (seqn + slen - 1) wend))

/-- ACCEPTABLE on host operands, the verdict given as membership in the `wnd` numbers from `nxt` onward
(41_acceptability.md sections 2 and 3; the spec marks the membership form as derived): RES, SLEN and WEND are
written, the command ends OK with TXVALID 0, and nothing else changes. -/
def Obligations.AcceptableCommandResult : Prop :=
  ∀ (s : State) (syn fin : Bool),
    let wnd := (s.opc.extractLsb' 0 16).toNat
    let slen := (s.opc.extractLsb' 16 16).toNat + syn.toNat + fin.toNat
    exec (.acceptable syn fin) s =
      .next { s with
        status := .ok
        txvalid := false
        slen := BitVec.ofNat 32 slen
        wend := s.opb + BitVec.ofNat 32 wnd
        res :=
          if slen = 0 ∧ wnd = 0 then decide (s.opa = s.opb)
          else decide ((s.opa - s.opb).toNat < wnd) ||
            (decide (slen ≠ 0) &&
              decide ((s.opa + BitVec.ofNat 32 slen - 1 - s.opb).toNat < wnd)) }

/-! The frame validator (45_frame.md). -/

/-- The status of PARSE_FRAME is that of the first of the eight checks that fails, and a frame that passes all
eight is parsed (45_frame.md section 1, the table of checks; the spec marks it as derived). -/
def Obligations.FirstFailedCheckGivesStatus : Prop :=
  ∀ (len : Nat) (rx : Nat → Byte),
    (∀ c, frameView len rx = .error c ↔ firstFailure (frameChecks len rx) = some c) ∧
    ((∃ v, frameView len rx = .ok v) ↔ firstFailure (frameChecks len rx) = none)

/-- The fields of a parsed view, from the frame's bytes, each 16-bit and 32-bit field most significant byte
first (20_memory.md section 1), with the payload extent of R397: V_PLEN is Total Length minus 4·IHL, V_DLEN the
rest after the TCP header, V_DOFF the index of the first data byte, all inside the frame; bytes past the datagram
change nothing (45_frame.md section 1). -/
def Obligations.ParsedViewFields : Prop :=
  ∀ (len : Nat) (rx : Nat → Byte) (v : View), frameView len rx = .ok v →
    let be16 : Nat → Nat := fun i => (rx i).toNat * 256 + (rx (i + 1)).toNat
    let be32 : Nat → Nat := fun i => be16 i * 65536 + be16 (i + 2)
    let ihl := (rx 4).toNat % 16
    let total := (rx 6).toNat * 256 + (rx 7).toNat
    let tcp := 4 + 4 * ihl
    let offset := (rx (tcp + 12)).toNat / 16
    (v.plen.toNat + 4 * ihl = total ∧
      v.dlen.toNat + 4 * offset = v.plen.toNat ∧
      v.doff.toNat = tcp + 4 * offset ∧
      v.doff.toNat + v.dlen.toNat = 4 + total ∧ 4 + total ≤ len) ∧
    (v.saddr.toNat = be32 16 ∧ v.daddr.toNat = be32 20 ∧ v.proto = 6 ∧
      v.ports.toNat = be32 tcp ∧ v.seq.toNat = be32 (tcp + 4) ∧ v.ack.toNat = be32 (tcp + 8) ∧
      v.flags = rx (tcp + 13) ∧ v.wnd.toNat = be16 (tcp + 14)) ∧
    ∀ len', len ≤ len' → len' ≤ Config.pRxMax → frameView len' rx = .ok v

/-- R391: a frame longer than P_RXMAX or shorter than 4 bytes is MALFORMED, whatever its bytes, so no byte of
RXBUF is read. -/
def Obligations.BadLengthIsMalformed : Prop :=
  ∀ (s : State), s.rxlen.toNat > Config.pRxMax ∨ s.rxlen.toNat < 4 →
    (∀ rx, frameView s.rxlen.toNat rx = .error .malformed) ∧
    exec .parse s =
      .next { s with
        status := .malformed, txvalid := false, vValid := false, sticky := s.sticky ||| 0x004 }

/-- PARSE_FRAME reads no byte at an index of RXLEN or above (20_memory.md section 1; 45_frame.md section 1; the
spec marks it as derived). -/
def Obligations.ParseReadsOnlyTheFrame : Prop :=
  ∀ (len : Nat) (rx rx' : Nat → Byte), (∀ i, i < len → rx i = rx' i) →
    frameView len rx = frameView len rx'

/-- R398: PARSE_FRAME's verdict does not depend on the checksums, the IPv4 flags and Fragment Offset, the
options, Type of Service, Identification, Time To Live, the TCP reserved bits or the Urgent Pointer (every
byte but those named in the hypothesis), nor on the TCB. -/
def Obligations.UnexaminedFieldsDoNotMatter : Prop :=
  (∀ (len : Nat) (rx rx' : Nat → Byte),
    let tcp := 4 + 4 * ((rx 4).toNat % 16)
    (∀ i, i ∈ [2, 3, 4, 6, 7, 13] ∨ (16 ≤ i ∧ i < 24) ∨ (tcp ≤ i ∧ i < tcp + 12)
      ∨ (tcp + 13 ≤ i ∧ i < tcp + 16) → rx i = rx' i) →
    (rx (tcp + 12)).toNat / 16 = (rx' (tcp + 12)).toNat / 16 →
      frameView len rx = frameView len rx') ∧
  ∀ (s : State) (t : Tcb), ({ s with tcb := t } : State).frame = s.frame

/-- PARSE on a frame that passes every check: every view register is written, V_VALID is 1, the command ends
OK with TXVALID 0, and nothing else changes, in every TCB state (45_frame.md section 1, PARSE). -/
def Obligations.ParseCommandResult : Prop :=
  ∀ (s : State) (v : View), s.frame = .ok v →
    exec .parse s =
      .next { s with status := .ok, txvalid := false, vValid := true, view := v }

/-- R396: when PARSE_FRAME fails, V_VALID is 0, the other view registers keep their values, and the calling
command ends at once: no TCB register is written and nothing is emitted. (SEGMENT has set RES to 0 before.) -/
def Obligations.ParseFailureEndsTheCommand : Prop :=
  ∀ (s : State) (c : Status), s.frame = .error c →
    (c = .ignored ∨ c = .malformed) ∧
    let t : State := { s with
      status := c
      txvalid := false
      vValid := false
      sticky := s.sticky ||| (if c = .ignored then 0x002 else 0x004) }
    exec .parse s = .next t ∧
    exec .synrcv s = .next t ∧
    exec .segment s = .next { t with res := false }

/-! EMIT (43_emit.md). -/

/-- The fields of the emitted datagram as they lie in TXBUF, each 16-bit and 32-bit field most significant byte
first (43_emit.md section 2; 20_memory.md section 1). -/
def Obligations.EmittedHeaderFields : Prop :=
  ∀ s : State,
    let tx := (emit s).bufByte
    let be16 : Nat → Nat := fun i => (tx i).toNat * 256 + (tx (i + 1)).toNat
    let be32 : Nat → Nat := fun i => be16 i * 65536 + be16 (i + 2)
    (tx 0x800 = 0x45 ∧ tx 0x801 = 0 ∧ be16 0x802 = 40 ∧ be16 0x804 = 0 ∧ be16 0x806 = 0 ∧
      tx 0x808 = Config.pTtl ∧ tx 0x809 = 6 ∧
      be32 0x80C = s.tcb.tplLaddr.toNat ∧ be32 0x810 = s.tcb.tplRaddr.toNat) ∧
    be16 0x814 = s.tcb.tplPorts.toNat / 65536 ∧ be16 0x816 = s.tcb.tplPorts.toNat % 65536 ∧
    be32 0x818 = s.tcb.sndNxt.toNat ∧ be32 0x81C = s.tcb.rcvNxt.toNat ∧
    tx 0x820 = 0x50 ∧ tx 0x821 = s.tcb.tplFlags ∧ be16 0x822 = s.tcb.sndWnd.toNat ∧
    be16 0x826 = 0

/-- The Internet checksum, by arithmetic: with the sum of the 16-bit big-endian words, an odd last byte padded
low, it makes a multiple of 65535, and it is 0xFFFF only when every byte is 0. Both checksums of every emitted
datagram verify, over the IPv4 header, and over the TCP header with the pseudo-header's addresses, protocol 6
and TCP length 20: the words add up to a multiple of 65535, and CSUM over them is 0 (43_emit.md section 3). -/
def Obligations.EmittedChecksumsVerify : Prop :=
  (∀ bs : List Byte, (wordSum bs + (csum bs).toNat) % 65535 = 0 ∧
    (csum bs = 0xFFFF ↔ wordSum bs = 0)) ∧
  ∀ (ttl : Byte) (t : Tcb),
    (csum ((datagram 40 ttl t).take 20) = 0 ∧
      csum (pseudoHeader t 20 ++ (datagram 40 ttl t).drop 20) = 0) ∧
    wordSum ((datagram 40 ttl t).take 20) % 65535 = 0 ∧
    (t.tplLaddr.toNat / 65536 + t.tplLaddr.toNat % 65536
      + t.tplRaddr.toNat / 65536 + t.tplRaddr.toNat % 65536 + 6 + 20
      + wordSum ((datagram 40 ttl t).drop 20)) % 65535 = 0

/-- R318: if SYN was sent, SND_NXT advances by 1 and TPL_FLAGS.SYN is cleared; if FIN was sent, SND_NXT
advances by 1 and TPL_FLAGS.FIN is cleared; the two are independent. -/
def Obligations.EmitSequenceBookkeeping : Prop :=
  ∀ s : State,
    (emit s).tcb =
      { s.tcb with
        sndNxt := s.tcb.sndNxt
          + (if s.tcb.tplFlags.getLsbD 1 then 1 else 0) + (if s.tcb.tplFlags.getLsbD 0 then 1 else 0)
        tplFlags := s.tcb.tplFlags &&& 0xFC }

/-- EMIT writes TXBUF bytes 0 to 39, TXLEN, TXVALID, SND_NXT and TPL_FLAGS, and nothing else (43_emit.md
section 4; the spec marks this summary as derived). -/
def Obligations.EmitWritesNothingElse : Prop :=
  ∀ s : State, ∃ sndNxt tplFlags buf,
    emit s =
      { s with
        txlen := 40, txvalid := true, buf := buf,
        tcb := { s.tcb with sndNxt := sndNxt, tplFlags := tplFlags } } ∧
    emittedInto s (emit s) s.tcb

/-! SYNRCV and RELEASE (44_accept.md). -/

/-- R354: on a SYN accepted in Closed, SYNRCV initialises the whole TCB group (the template is the SYN's
addresses and ports swapped, `una` and `nxt` start at `iss`, `up`, `wl1` and `wl2` at 0), then sends the
SYN+ACK, after which SND_NXT is `iss +w 1` and TPL_FLAGS 0x10. Nothing else changes. -/
def Obligations.SynrcvCreatesTcb : Prop :=
  ∀ (s : State) (v : View),
    s.tcb.state = .closed → s.frame = .ok v → v.flags.getLsbD 1 = true →
    let opened : Tcb :=
      { state := .synReceived
        sndIss := s.opa, sndUna := s.opa, sndNxt := s.opa, sndWnd := s.initWnd
        sndUp := false, sndWl1 := 0, sndWl2 := 0
        rcvIrs := v.seq, rcvNxt := v.seq + 1, rcvWnd := v.wnd, rcvUp := false
        tplLaddr := v.daddr, tplRaddr := v.saddr
        tplPorts := (v.ports.extractLsb' 0 16 ++ v.ports.extractLsb' 16 16).setWidth 32
        tplFlags := 0x12 }
    ∃ t, exec .synrcv s = .next t ∧
      t = { s with
        status := .ok, txlen := 40, txvalid := true, vValid := true, view := v, buf := t.buf
        tcb := { opened with sndNxt := s.opa + 1, tplFlags := 0x10 } } ∧
      emittedInto s t opened

/-- R352, R353 and R452: SYNRCV raises BUSY when STATE is not Closed, and NOT_SYN in Closed when the frame has
no SYN flag; it then changes nothing besides the view registers, STATUS, STICKY and TXVALID. A frame with SYN is
accepted in Closed whatever its other flags. -/
def Obligations.SynrcvBusyAndNotSyn : Prop :=
  ∀ (s : State) (v : View), s.frame = .ok v →
    (s.tcb.state ≠ .closed →
      exec .synrcv s =
        .next { s with
          status := .busy, txvalid := false, vValid := true, view := v
          sticky := s.sticky ||| 0x200 }) ∧
    (s.tcb.state = .closed → v.flags.getLsbD 1 = false →
      exec .synrcv s =
        .next { s with
          status := .notSyn, txvalid := false, vValid := true, view := v
          sticky := s.sticky ||| 0x100 }) ∧
    (s.tcb.state = .closed → v.flags.getLsbD 1 = true →
      ∃ t, exec .synrcv s = .next t ∧ t.status = .ok ∧ t.tcb.state = .synReceived ∧ t.txvalid = true)

/-- R359: RELEASE sets every register of the TCB group to 0, in every state, and changes nothing else but
STATUS (OK) and TXVALID (0); its word is 0x00000006. -/
def Obligations.ReleaseClearsTheTcbGroup : Prop :=
  decode 0x00000006 = .ok .release ∧
  ∀ s : State, ∃ t,
    exec .release s = .next t ∧
    t = { s with status := .ok, txvalid := false, tcb := t.tcb } ∧
    t.tcb.state = .closed ∧
    (∀ n : RegNo, 0x10 ≤ n.toNat → n.toNat ≤ 0x1F → t.readRegNo n = 0) ∧
    ((∀ n : RegNo, 0x10 ≤ n.toNat → n.toNat ≤ 0x1F → s.readRegNo n = 0) → t.tcb = s.tcb)

/-! SEGMENT and CLOSE (42_segment.md). -/

/-- CLOSE in Established sends FIN+ACK with sequence number SND_NXT, advances SND_NXT by 1, leaves TPL_FLAGS
0x10 and enters FinWait1 (42_segment.md section 3). The premise is the TCB invariant, a statement of its
own. -/
def Obligations.CloseInEstablishedSendsFin : Prop :=
  ∀ s : State, s.tcb.Inv → s.tcb.state = .established →
    ∃ t, exec .close s = .next t ∧
      t = { s with
        status := .ok, txlen := 40, txvalid := true, buf := t.buf
        tcb := { s.tcb with state := .finWait1, sndNxt := s.tcb.sndNxt + 1 } } ∧
      emittedInto s t { s.tcb with tplFlags := 0x11 }

/-- CLOSE outside Established raises CLOSED_IGNORED in Closed and PROTOCOL_VIOLATION in the other states, and
changes nothing besides STATUS, STICKY and TXVALID (42_segment.md section 3). -/
def Obligations.CloseOutsideEstablishedIsRefused : Prop :=
  ∀ s : State, s.tcb.state ≠ .established →
    exec .close s =
      .next { s with
        status := if s.tcb.state = .closed then .closedIgnored else .protocolViolation
        txvalid := false
        sticky := s.sticky ||| (if s.tcb.state = .closed then 0x080 else 0x010) }

/-- R262 and R449: in Closed, SEGMENT raises CLOSED_IGNORED after a successful parse (RES is 0 from S0), and so
does CLOSE at once; nothing else changes except the view registers SEGMENT's parse wrote. -/
def Obligations.ClosedIgnoresSegmentAndClose : Prop :=
  ∀ (s : State) (v : View), s.tcb.state = .closed →
    (s.frame = .ok v →
      exec .segment s =
        .next { s with
          status := .closedIgnored, txvalid := false, res := false, vValid := true, view := v
          sticky := s.sticky ||| 0x080 }) ∧
    exec .close s =
      .next { s with status := .closedIgnored, txvalid := false, sticky := s.sticky ||| 0x080 }

/-- R447: an unacceptable segment: SLEN, WEND and RES (0) and the view registers are written, one empty ACK is
emitted, and RCV_NXT, STATE and SND_UNA (and every other TCB register) are unchanged. The premise is the TCB
invariant, by which TPL_FLAGS is ACK alone. -/
def Obligations.UnacceptableSegmentIsAcked : Prop :=
  ∀ (s : State) (v : View), s.tcb.Inv → s.tcb.state ≠ .closed → s.frame = .ok v →
    let a := acc v.seq v.dlen (v.flags.getLsbD 1) (v.flags.getLsbD 0) s.tcb.rcvNxt s.tcb.rcvWnd
    a.ok = false →
    s.tcb.tplFlags = 0x10 ∧
    ∃ t, exec .segment s = .next t ∧
      t = { s with
        status := .unacceptable, sticky := s.sticky ||| 0x008
        res := false, slen := a.slen, wend := a.wend
        txlen := 40, txvalid := true, vValid := true, view := v, buf := t.buf } ∧
      emittedInto s t s.tcb

/-- An acceptable segment takes the TCB through the row of the transition table (42_segment.md section 4, which
the spec marks as derived): STATE, STATUS and the emission are the row's, RCV_NXT becomes `seqn +w slen`,
SND_UNA becomes `ackn` when `ackok` holds in any state but TimeWait, SND_NXT advances with a FIN sent, RES,
SLEN, WEND and the view are written, and nothing else changes. The premise is the TCB invariant. -/
def Obligations.AcceptableSegmentFollowsTable : Prop :=
  ∀ (s : State) (v : View), s.tcb.Inv → s.tcb.state ≠ .closed → s.frame = .ok v →
    let fin := v.flags.getLsbD 0
    let a := acc v.seq v.dlen (v.flags.getLsbD 1) fin s.tcb.rcvNxt s.tcb.rcvWnd
    let ackok := v.flags.getLsbD 4 && between (s.tcb.sndUna - 1) v.ack (s.tcb.sndNxt + 1)
    let row := segmentRow s.tcb.state ackok s.autoclose (v.ack == s.tcb.sndIss + 2) fin
    let una := if ackok = true ∧ s.tcb.state ≠ .timeWait then v.ack else s.tcb.sndUna
    a.ok = true →
    ∃ t, exec .segment s = .next t ∧
      t = { s with
        status := row.status, sticky := stickyAfter s.sticky row.status
        res := true, slen := a.slen, wend := a.wend
        txlen := if row.emits.isSome then 40 else s.txlen
        txvalid := row.emits.isSome, vValid := true, view := v, buf := t.buf
        tcb := { s.tcb with
          state := row.state
          rcvNxt := v.seq + a.slen
          sndUna := una
          sndNxt := if row.emits = some 0x11 then s.tcb.sndNxt + 1 else s.tcb.sndNxt } } ∧
      (row.emits = none → buffersKept s t) ∧
      ∀ fl, row.emits = some fl →
        emittedInto s t { s.tcb with rcvNxt := v.seq + a.slen, tplFlags := fl }

/-- R278: SEGMENT never writes SND_WND, SND_WL1, SND_WL2, SND_UP, RCV_WND, RCV_UP, RCV_IRS, SND_ISS or the
template addresses and ports, in any state and on any frame. -/
def Obligations.SegmentKeepsFixedRegisters : Prop :=
  ∀ s t : State, exec .segment s = .next t →
    t.tcb.sndWnd = s.tcb.sndWnd ∧ t.tcb.sndWl1 = s.tcb.sndWl1 ∧ t.tcb.sndWl2 = s.tcb.sndWl2 ∧
    t.tcb.sndUp = s.tcb.sndUp ∧ t.tcb.rcvWnd = s.tcb.rcvWnd ∧ t.tcb.rcvUp = s.tcb.rcvUp ∧
    t.tcb.rcvIrs = s.tcb.rcvIrs ∧ t.tcb.sndIss = s.tcb.sndIss ∧
    t.tcb.tplLaddr = s.tcb.tplLaddr ∧ t.tcb.tplRaddr = s.tcb.tplRaddr ∧
    t.tcb.tplPorts = s.tcb.tplPorts

/-- R274 and R276: what SEGMENT does to the TCB, and what it reports and emits, depends on the frame only
through its sequence and acknowledgment numbers, its sequence length (where SYN counts one), FIN and ACK: not on
its addresses or ports, nor on RST, PSH, URG, ECE and CWR, which the view registers keep. -/
def Obligations.SegmentIgnoresFourTupleAndOtherFlags : Prop :=
  ∀ (s t t' : State) (buf' : Memory) (rxlen' : Half) (v v' : View),
    s.frame = .ok v → ({ s with buf := buf', rxlen := rxlen' } : State).frame = .ok v' →
    v'.seq = v.seq → v'.ack = v.ack →
    v'.flags.getLsbD 0 = v.flags.getLsbD 0 → v'.flags.getLsbD 4 = v.flags.getLsbD 4 →
    v'.dlen.toNat + (v'.flags.getLsbD 1).toNat = v.dlen.toNat + (v.flags.getLsbD 1).toNat →
    exec .segment s = .next t →
    exec .segment { s with buf := buf', rxlen := rxlen' } = .next t' →
      t'.tcb = t.tcb ∧ t'.status = t.status ∧ t'.sticky = t.sticky ∧ t'.res = t.res ∧
      t'.slen = t.slen ∧ t'.wend = t.wend ∧ t'.txvalid = t.txvalid ∧ t'.txlen = t.txlen ∧
      t.view = v ∧ t'.view = v' ∧
      (t.txvalid = true → ∀ i, i < 40 → t'.bufByte (txBase + i) = t.bufByte (txBase + i))

/-! Rules of the whole machine. -/

/-- R277: SEGMENT never leaves TimeWait; whatever the host does, the TCB stays in TimeWait until RELEASE or
reset. -/
def Obligations.TimeWaitEndsByReleaseOrReset : Prop :=
  (∀ s t : State, s.tcb.state = .timeWait → exec .segment s = .next t → t.tcb.state = .timeWait) ∧
  ∀ (s t : State) (e : HostEvent), s.tcb.state = .timeWait → perform e s = .next t →
    t.tcb.state = .timeWait ∨ e = .reset ∨
      ∃ w, e = .writeReg 0x00 w ∧ decode w = .ok .release

/-- STATE moves only along the transitions of 42_segment.md section 4 and 44_accept.md section 3, each by the
command that makes it; Closed is reached only by RELEASE and reset, and left only by SYNRCV. The premise is
the TCB invariant. -/
def Obligations.StateMovesAlongTheTable : Prop :=
  ∀ (s t : State) (e : HostEvent), s.tcb.Inv → perform e s = .next t →
    t.tcb.state ≠ s.tcb.state →
      (t.tcb.state = .closed ∧ (e = .reset ∨ ∃ w, e = .writeReg 0x00 w ∧ decode w = .ok .release)) ∨
      (s.tcb.state = .closed ∧ t.tcb.state = .synReceived ∧
        ∃ w, e = .writeReg 0x00 w ∧ decode w = .ok .synrcv) ∨
      (s.tcb.state = .established ∧ t.tcb.state = .finWait1 ∧
        ∃ w, e = .writeReg 0x00 w ∧ decode w = .ok .close) ∨
      ((s.tcb.state, t.tcb.state) ∈
          [(TcbState.synReceived, TcbState.established), (.synReceived, .finWait1),
            (.established, .finWait1), (.finWait1, .finWait2), (.finWait1, .timeWait),
            (.finWait2, .timeWait)] ∧
        ∃ w, e = .writeReg 0x00 w ∧ decode w = .ok .segment)

/-- R445: when a command ends with a status other than OK, it sets STICKY bit `1 << STATUS` and no other; only
reset clears STICKY. -/
def Obligations.StickyAccumulatesStatuses : Prop :=
  (∀ (s t : State) (w : Word), perform (.writeReg 0x00 w) s = .next t →
    t.sticky = if t.status = .ok then s.sticky else s.sticky ||| (1#11 <<< t.status.code.toNat)) ∧
  ∀ (s t : State) (e : HostEvent), perform e s = .next t → e ≠ .reset →
    t.sticky &&& s.sticky = s.sticky

/-- The codes each command can end with (60_exceptions.md section 2, which the spec marks as derived). -/
def Obligations.StatusCodesOfEachCommand : Prop :=
  ∀ (s t : State) (i : Instr), exec i s = .next t →
    t.status ∈
      (match i with
        | .between => [Status.ok]
        | .acceptable _ _ => [.ok]
        | .parse => [.malformed, .ignored, .ok]
        | .synrcv => [.malformed, .ignored, .busy, .notSyn, .ok]
        | .segment =>
          [.malformed, .ignored, .closedIgnored, .unacceptable, .protocolViolation, .ok]
        | .release => [.ok]
        | .close => [.closedIgnored, .protocolViolation, .ok] : List Status)

/-- A write to CMD stores the word and then sets STATUS to OK and TXVALID to 0, and nothing else, before any
other step of the command, legal word or not: a legal word's command is the one performed from that state, an
illegal word's raise is made in it, and what CMD, STATUS and TXVALID were before does not matter
(60_exceptions.md section 1, command-start bookkeeping). -/
def Obligations.CommandStartForgetsStatus : Prop :=
  ∀ (s : State) (w w' : Word) (c : Status) (b : Bool),
    let start : State := { s with cmd := w, status := .ok, txvalid := false }
    ({ s with cmd := w } : State).startCommand = start ∧
    (∀ i, decode w = .ok i → perform (.writeReg 0x00 w) s = exec i start) ∧
    (∀ e, decode w = .error e → perform (.writeReg 0x00 w) s = .next (start.raiseStatus .illegalCmd)) ∧
    perform (.writeReg 0x00 w) { s with cmd := w', status := c, txvalid := b } =
      perform (.writeReg 0x00 w) s ∧
    ∀ t, perform (.writeReg 0x00 w) s = .next t → t.cmd = w

/-- No command writes the operand registers, RXLEN, CFG or CMD, nor what the host still has to do or has read;
RES, SLEN, WEND, the view registers and the TCB group are written only by the commands the spec names
(10_state.md sections 2 to 4). `pending`, `returned` and `resetCount` are the model's own fields: that commands
keep them is the model's choice, logs 1, 2 and 3. -/
def Obligations.CommandsWriteOnlyTheirRegisters : Prop :=
  ∀ (s t : State) (i : Instr), exec i s = .next t →
    (t.cmd = s.cmd ∧ t.opa = s.opa ∧ t.opb = s.opb ∧ t.opc = s.opc ∧ t.rxlen = s.rxlen ∧
      t.initWnd = s.initWnd ∧ t.autoclose = s.autoclose ∧ t.resetCount = s.resetCount ∧
      t.pending = s.pending ∧ t.returned = s.returned) ∧
    (i = .parse ∨ i = .synrcv ∨ i = .release ∨ i = .close → t.res = s.res) ∧
    (i ≠ .segment → (∀ syn fin, i ≠ .acceptable syn fin) → t.slen = s.slen ∧ t.wend = s.wend) ∧
    (i ≠ .parse → i ≠ .synrcv → i ≠ .segment → t.view = s.view ∧ t.vValid = s.vValid) ∧
    (t.vValid = false → t.view = s.view) ∧
    (i ≠ .synrcv → i ≠ .segment → i ≠ .release → i ≠ .close → t.tcb = s.tcb)

/-- No command writes a buffer byte outside TXBUF bytes 0 to 39; one that emits nothing leaves every buffer
byte and TXLEN (20_memory.md sections 1 and 4; the first is marked as derived there). -/
def Obligations.CommandsWriteOnlyTxbuf : Prop :=
  ∀ (s t : State) (i : Instr), exec i s = .next t →
    (∀ a, ¬(0x800 ≤ a ∧ a < 0x828) → t.bufByte a = s.bufByte a) ∧
    (t.txvalid = false → buffersKept s t ∧ t.txlen = s.txlen) ∧
    (t.txvalid = true → t.txlen = 40)

/-- SND_ISS and RCV_IRS are fixed at connection creation: once a TCB exists, they change only when RELEASE or
reset destroys it (10_state.md section 3; the spec marks this as derived). -/
def Obligations.InitialSequenceNumbersAreFixed : Prop :=
  ∀ (s t : State) (e : HostEvent), s.tcb.state ≠ .closed → perform e s = .next t →
    t.tcb.state ≠ .closed → t.tcb.sndIss = s.tcb.sndIss ∧ t.tcb.rcvIrs = s.tcb.rcvIrs

/-- RCV_NXT changes only at SEGMENT stage S3, to `seqn +w slen` of an accepted segment, and at SYNRCV and
RELEASE (10_state.md section 3, receive space). -/
def Obligations.RcvNxtMovesOnlyByAcceptedSegments : Prop :=
  ∀ (s t : State) (i : Instr), exec i s = .next t → t.tcb.rcvNxt ≠ s.tcb.rcvNxt →
    i = .synrcv ∨ i = .release ∨
      (i = .segment ∧ t.res = true ∧ t.vValid = true ∧ t.tcb.rcvNxt = t.view.seq + t.slen)

/-- The send-space bound: outside a command `(SND_NXT -w SND_UNA) <= 2` wherever a TCB exists (10_state.md
section 3; the spec marks it as derived). -/
def Obligations.SendSpaceStaysWithinTwo : Prop :=
  ∀ s t : State, s.tcb.Inv → step s = .next t → t.tcb.state ≠ .closed →
    (t.tcb.sndNxt - t.tcb.sndUna).toNat ≤ 2

/-! Invariants. -/

/-- Every step keeps the TCB invariant: the send space in each state, TPL_FLAGS, the registers that are always
0, and all of the group 0 in Closed (10_state.md section 3). -/
def Obligations.StepKeepsTcbInvariant : Prop :=
  ∀ s t : State, s.tcb.Inv → step s = .next t → t.tcb.Inv

/-- Every step keeps the report invariant: STATUS and STICKY never hold the reserved codes, STICKY bit 0 is 0,
STICKY records STATUS, and SLEN is at most 65537 (10_state.md section 2; 60_exceptions.md section 1). -/
def Obligations.StepKeepsReportInvariant : Prop :=
  ∀ s t : State, s.ReportInv → step s = .next t → t.ReportInv

/-- Every step keeps the view invariant: V_PROTO is 0 or 6, and a valid view's header and payload lie in the
frame (10_state.md section 4; 45_frame.md section 1). -/
def Obligations.StepKeepsViewInvariant : Prop :=
  ∀ s t : State, s.ViewInv → step s = .next t → t.ViewInv

/-- Every step keeps the buffer invariant: the memory's canonical form (log 4), TXLEN 0 or 40, TXVALID only
with a datagram and a TCB, and a datagram's bytes all written (20_memory.md section 4). -/
def Obligations.StepKeepsBufferInvariant : Prop :=
  ∀ s t : State, s.BufferInv → step s = .next t → t.BufferInv

/-- The state right after reset meets every part of the invariant (70_reset_and_hazards.md section 1). The form of
memory inside the invariant is the model's choice, log 4. -/
def Obligations.ResetMeetsInvariant : Prop := State.reset.Inv

/-- Whatever the host does, and however long: from reset, every number of steps of every host program answers
a next state, and it is safe (60_exceptions.md section 1; 10_state.md section 1). That a host program stands in
`pending` is the model's choice, log 1, and so is the form of memory inside the invariant, log 4. -/
def Obligations.EveryHostProgramStaysSafe : Prop :=
  ∀ (es : List HostEvent) (k : Nat), ∃ t : State,
    Host.Core.run core k ({ State.reset with pending := es } : State) = .next t ∧ t.Inv
end

