-- ==== Sys2Proof/Laws/State.lean ====
section
/-! SUPPORT. What each update of the state does to each field, true by definition. -/

namespace Sys2Proof.Machine

/-! What `State.withCmd` does to each field. -/

@[simp] theorem State.withCmd_cmd (s : State) (w : Word) :
    (s.withCmd w).cmd = w := rfl
@[simp] theorem State.withCmd_status (s : State) (w : Word) :
    (s.withCmd w).status = s.status := rfl
@[simp] theorem State.withCmd_sticky (s : State) (w : Word) :
    (s.withCmd w).sticky = s.sticky := rfl
@[simp] theorem State.withCmd_res (s : State) (w : Word) :
    (s.withCmd w).res = s.res := rfl
@[simp] theorem State.withCmd_opa (s : State) (w : Word) :
    (s.withCmd w).opa = s.opa := rfl
@[simp] theorem State.withCmd_opb (s : State) (w : Word) :
    (s.withCmd w).opb = s.opb := rfl
@[simp] theorem State.withCmd_opc (s : State) (w : Word) :
    (s.withCmd w).opc = s.opc := rfl
@[simp] theorem State.withCmd_rxlen (s : State) (w : Word) :
    (s.withCmd w).rxlen = s.rxlen := rfl
@[simp] theorem State.withCmd_txlen (s : State) (w : Word) :
    (s.withCmd w).txlen = s.txlen := rfl
@[simp] theorem State.withCmd_txvalid (s : State) (w : Word) :
    (s.withCmd w).txvalid = s.txvalid := rfl
@[simp] theorem State.withCmd_initWnd (s : State) (w : Word) :
    (s.withCmd w).initWnd = s.initWnd := rfl
@[simp] theorem State.withCmd_autoclose (s : State) (w : Word) :
    (s.withCmd w).autoclose = s.autoclose := rfl
@[simp] theorem State.withCmd_slen (s : State) (w : Word) :
    (s.withCmd w).slen = s.slen := rfl
@[simp] theorem State.withCmd_wend (s : State) (w : Word) :
    (s.withCmd w).wend = s.wend := rfl
@[simp] theorem State.withCmd_tcb (s : State) (w : Word) :
    (s.withCmd w).tcb = s.tcb := rfl
@[simp] theorem State.withCmd_vValid (s : State) (w : Word) :
    (s.withCmd w).vValid = s.vValid := rfl
@[simp] theorem State.withCmd_view (s : State) (w : Word) :
    (s.withCmd w).view = s.view := rfl
@[simp] theorem State.withCmd_buf (s : State) (w : Word) :
    (s.withCmd w).buf = s.buf := rfl
@[simp] theorem State.withCmd_resetCount (s : State) (w : Word) :
    (s.withCmd w).resetCount = s.resetCount := rfl
@[simp] theorem State.withCmd_pending (s : State) (w : Word) :
    (s.withCmd w).pending = s.pending := rfl
@[simp] theorem State.withCmd_returned (s : State) (w : Word) :
    (s.withCmd w).returned = s.returned := rfl

/-! What `State.withRes` does to each field. -/

@[simp] theorem State.withRes_cmd (s : State) (b : Bool) :
    (s.withRes b).cmd = s.cmd := rfl
@[simp] theorem State.withRes_status (s : State) (b : Bool) :
    (s.withRes b).status = s.status := rfl
@[simp] theorem State.withRes_sticky (s : State) (b : Bool) :
    (s.withRes b).sticky = s.sticky := rfl
@[simp] theorem State.withRes_res (s : State) (b : Bool) :
    (s.withRes b).res = b := rfl
@[simp] theorem State.withRes_opa (s : State) (b : Bool) :
    (s.withRes b).opa = s.opa := rfl
@[simp] theorem State.withRes_opb (s : State) (b : Bool) :
    (s.withRes b).opb = s.opb := rfl
@[simp] theorem State.withRes_opc (s : State) (b : Bool) :
    (s.withRes b).opc = s.opc := rfl
@[simp] theorem State.withRes_rxlen (s : State) (b : Bool) :
    (s.withRes b).rxlen = s.rxlen := rfl
@[simp] theorem State.withRes_txlen (s : State) (b : Bool) :
    (s.withRes b).txlen = s.txlen := rfl
@[simp] theorem State.withRes_txvalid (s : State) (b : Bool) :
    (s.withRes b).txvalid = s.txvalid := rfl
@[simp] theorem State.withRes_initWnd (s : State) (b : Bool) :
    (s.withRes b).initWnd = s.initWnd := rfl
@[simp] theorem State.withRes_autoclose (s : State) (b : Bool) :
    (s.withRes b).autoclose = s.autoclose := rfl
@[simp] theorem State.withRes_slen (s : State) (b : Bool) :
    (s.withRes b).slen = s.slen := rfl
@[simp] theorem State.withRes_wend (s : State) (b : Bool) :
    (s.withRes b).wend = s.wend := rfl
@[simp] theorem State.withRes_tcb (s : State) (b : Bool) :
    (s.withRes b).tcb = s.tcb := rfl
@[simp] theorem State.withRes_vValid (s : State) (b : Bool) :
    (s.withRes b).vValid = s.vValid := rfl
@[simp] theorem State.withRes_view (s : State) (b : Bool) :
    (s.withRes b).view = s.view := rfl
@[simp] theorem State.withRes_buf (s : State) (b : Bool) :
    (s.withRes b).buf = s.buf := rfl
@[simp] theorem State.withRes_resetCount (s : State) (b : Bool) :
    (s.withRes b).resetCount = s.resetCount := rfl
@[simp] theorem State.withRes_pending (s : State) (b : Bool) :
    (s.withRes b).pending = s.pending := rfl
@[simp] theorem State.withRes_returned (s : State) (b : Bool) :
    (s.withRes b).returned = s.returned := rfl

/-! What `State.withAcc` does to each field. -/

@[simp] theorem State.withAcc_cmd (s : State) (ok : Bool) (sl we : Word) :
    (s.withAcc ok sl we).cmd = s.cmd := rfl
@[simp] theorem State.withAcc_status (s : State) (ok : Bool) (sl we : Word) :
    (s.withAcc ok sl we).status = s.status := rfl
@[simp] theorem State.withAcc_sticky (s : State) (ok : Bool) (sl we : Word) :
    (s.withAcc ok sl we).sticky = s.sticky := rfl
@[simp] theorem State.withAcc_res (s : State) (ok : Bool) (sl we : Word) :
    (s.withAcc ok sl we).res = ok := rfl
@[simp] theorem State.withAcc_opa (s : State) (ok : Bool) (sl we : Word) :
    (s.withAcc ok sl we).opa = s.opa := rfl
@[simp] theorem State.withAcc_opb (s : State) (ok : Bool) (sl we : Word) :
    (s.withAcc ok sl we).opb = s.opb := rfl
@[simp] theorem State.withAcc_opc (s : State) (ok : Bool) (sl we : Word) :
    (s.withAcc ok sl we).opc = s.opc := rfl
@[simp] theorem State.withAcc_rxlen (s : State) (ok : Bool) (sl we : Word) :
    (s.withAcc ok sl we).rxlen = s.rxlen := rfl
@[simp] theorem State.withAcc_txlen (s : State) (ok : Bool) (sl we : Word) :
    (s.withAcc ok sl we).txlen = s.txlen := rfl
@[simp] theorem State.withAcc_txvalid (s : State) (ok : Bool) (sl we : Word) :
    (s.withAcc ok sl we).txvalid = s.txvalid := rfl
@[simp] theorem State.withAcc_initWnd (s : State) (ok : Bool) (sl we : Word) :
    (s.withAcc ok sl we).initWnd = s.initWnd := rfl
@[simp] theorem State.withAcc_autoclose (s : State) (ok : Bool) (sl we : Word) :
    (s.withAcc ok sl we).autoclose = s.autoclose := rfl
@[simp] theorem State.withAcc_slen (s : State) (ok : Bool) (sl we : Word) :
    (s.withAcc ok sl we).slen = sl := rfl
@[simp] theorem State.withAcc_wend (s : State) (ok : Bool) (sl we : Word) :
    (s.withAcc ok sl we).wend = we := rfl
@[simp] theorem State.withAcc_tcb (s : State) (ok : Bool) (sl we : Word) :
    (s.withAcc ok sl we).tcb = s.tcb := rfl
@[simp] theorem State.withAcc_vValid (s : State) (ok : Bool) (sl we : Word) :
    (s.withAcc ok sl we).vValid = s.vValid := rfl
@[simp] theorem State.withAcc_view (s : State) (ok : Bool) (sl we : Word) :
    (s.withAcc ok sl we).view = s.view := rfl
@[simp] theorem State.withAcc_buf (s : State) (ok : Bool) (sl we : Word) :
    (s.withAcc ok sl we).buf = s.buf := rfl
@[simp] theorem State.withAcc_resetCount (s : State) (ok : Bool) (sl we : Word) :
    (s.withAcc ok sl we).resetCount = s.resetCount := rfl
@[simp] theorem State.withAcc_pending (s : State) (ok : Bool) (sl we : Word) :
    (s.withAcc ok sl we).pending = s.pending := rfl
@[simp] theorem State.withAcc_returned (s : State) (ok : Bool) (sl we : Word) :
    (s.withAcc ok sl we).returned = s.returned := rfl

/-! What `State.withTcb` does to each field. -/

@[simp] theorem State.withTcb_cmd (s : State) (t : Tcb) :
    (s.withTcb t).cmd = s.cmd := rfl
@[simp] theorem State.withTcb_status (s : State) (t : Tcb) :
    (s.withTcb t).status = s.status := rfl
@[simp] theorem State.withTcb_sticky (s : State) (t : Tcb) :
    (s.withTcb t).sticky = s.sticky := rfl
@[simp] theorem State.withTcb_res (s : State) (t : Tcb) :
    (s.withTcb t).res = s.res := rfl
@[simp] theorem State.withTcb_opa (s : State) (t : Tcb) :
    (s.withTcb t).opa = s.opa := rfl
@[simp] theorem State.withTcb_opb (s : State) (t : Tcb) :
    (s.withTcb t).opb = s.opb := rfl
@[simp] theorem State.withTcb_opc (s : State) (t : Tcb) :
    (s.withTcb t).opc = s.opc := rfl
@[simp] theorem State.withTcb_rxlen (s : State) (t : Tcb) :
    (s.withTcb t).rxlen = s.rxlen := rfl
@[simp] theorem State.withTcb_txlen (s : State) (t : Tcb) :
    (s.withTcb t).txlen = s.txlen := rfl
@[simp] theorem State.withTcb_txvalid (s : State) (t : Tcb) :
    (s.withTcb t).txvalid = s.txvalid := rfl
@[simp] theorem State.withTcb_initWnd (s : State) (t : Tcb) :
    (s.withTcb t).initWnd = s.initWnd := rfl
@[simp] theorem State.withTcb_autoclose (s : State) (t : Tcb) :
    (s.withTcb t).autoclose = s.autoclose := rfl
@[simp] theorem State.withTcb_slen (s : State) (t : Tcb) :
    (s.withTcb t).slen = s.slen := rfl
@[simp] theorem State.withTcb_wend (s : State) (t : Tcb) :
    (s.withTcb t).wend = s.wend := rfl
@[simp] theorem State.withTcb_tcb (s : State) (t : Tcb) :
    (s.withTcb t).tcb = t := rfl
@[simp] theorem State.withTcb_vValid (s : State) (t : Tcb) :
    (s.withTcb t).vValid = s.vValid := rfl
@[simp] theorem State.withTcb_view (s : State) (t : Tcb) :
    (s.withTcb t).view = s.view := rfl
@[simp] theorem State.withTcb_buf (s : State) (t : Tcb) :
    (s.withTcb t).buf = s.buf := rfl
@[simp] theorem State.withTcb_resetCount (s : State) (t : Tcb) :
    (s.withTcb t).resetCount = s.resetCount := rfl
@[simp] theorem State.withTcb_pending (s : State) (t : Tcb) :
    (s.withTcb t).pending = s.pending := rfl
@[simp] theorem State.withTcb_returned (s : State) (t : Tcb) :
    (s.withTcb t).returned = s.returned := rfl

/-! What `State.withView` does to each field. -/

@[simp] theorem State.withView_cmd (s : State) (v : View) :
    (s.withView v).cmd = s.cmd := rfl
@[simp] theorem State.withView_status (s : State) (v : View) :
    (s.withView v).status = s.status := rfl
@[simp] theorem State.withView_sticky (s : State) (v : View) :
    (s.withView v).sticky = s.sticky := rfl
@[simp] theorem State.withView_res (s : State) (v : View) :
    (s.withView v).res = s.res := rfl
@[simp] theorem State.withView_opa (s : State) (v : View) :
    (s.withView v).opa = s.opa := rfl
@[simp] theorem State.withView_opb (s : State) (v : View) :
    (s.withView v).opb = s.opb := rfl
@[simp] theorem State.withView_opc (s : State) (v : View) :
    (s.withView v).opc = s.opc := rfl
@[simp] theorem State.withView_rxlen (s : State) (v : View) :
    (s.withView v).rxlen = s.rxlen := rfl
@[simp] theorem State.withView_txlen (s : State) (v : View) :
    (s.withView v).txlen = s.txlen := rfl
@[simp] theorem State.withView_txvalid (s : State) (v : View) :
    (s.withView v).txvalid = s.txvalid := rfl
@[simp] theorem State.withView_initWnd (s : State) (v : View) :
    (s.withView v).initWnd = s.initWnd := rfl
@[simp] theorem State.withView_autoclose (s : State) (v : View) :
    (s.withView v).autoclose = s.autoclose := rfl
@[simp] theorem State.withView_slen (s : State) (v : View) :
    (s.withView v).slen = s.slen := rfl
@[simp] theorem State.withView_wend (s : State) (v : View) :
    (s.withView v).wend = s.wend := rfl
@[simp] theorem State.withView_tcb (s : State) (v : View) :
    (s.withView v).tcb = s.tcb := rfl
@[simp] theorem State.withView_vValid (s : State) (v : View) :
    (s.withView v).vValid = true := rfl
@[simp] theorem State.withView_view (s : State) (v : View) :
    (s.withView v).view = v := rfl
@[simp] theorem State.withView_buf (s : State) (v : View) :
    (s.withView v).buf = s.buf := rfl
@[simp] theorem State.withView_resetCount (s : State) (v : View) :
    (s.withView v).resetCount = s.resetCount := rfl
@[simp] theorem State.withView_pending (s : State) (v : View) :
    (s.withView v).pending = s.pending := rfl
@[simp] theorem State.withView_returned (s : State) (v : View) :
    (s.withView v).returned = s.returned := rfl

/-! What `State.withoutView` does to each field. -/

@[simp] theorem State.withoutView_cmd (s : State) :
    s.withoutView.cmd = s.cmd := rfl
@[simp] theorem State.withoutView_status (s : State) :
    s.withoutView.status = s.status := rfl
@[simp] theorem State.withoutView_sticky (s : State) :
    s.withoutView.sticky = s.sticky := rfl
@[simp] theorem State.withoutView_res (s : State) :
    s.withoutView.res = s.res := rfl
@[simp] theorem State.withoutView_opa (s : State) :
    s.withoutView.opa = s.opa := rfl
@[simp] theorem State.withoutView_opb (s : State) :
    s.withoutView.opb = s.opb := rfl
@[simp] theorem State.withoutView_opc (s : State) :
    s.withoutView.opc = s.opc := rfl
@[simp] theorem State.withoutView_rxlen (s : State) :
    s.withoutView.rxlen = s.rxlen := rfl
@[simp] theorem State.withoutView_txlen (s : State) :
    s.withoutView.txlen = s.txlen := rfl
@[simp] theorem State.withoutView_txvalid (s : State) :
    s.withoutView.txvalid = s.txvalid := rfl
@[simp] theorem State.withoutView_initWnd (s : State) :
    s.withoutView.initWnd = s.initWnd := rfl
@[simp] theorem State.withoutView_autoclose (s : State) :
    s.withoutView.autoclose = s.autoclose := rfl
@[simp] theorem State.withoutView_slen (s : State) :
    s.withoutView.slen = s.slen := rfl
@[simp] theorem State.withoutView_wend (s : State) :
    s.withoutView.wend = s.wend := rfl
@[simp] theorem State.withoutView_tcb (s : State) :
    s.withoutView.tcb = s.tcb := rfl
@[simp] theorem State.withoutView_vValid (s : State) :
    s.withoutView.vValid = false := rfl
@[simp] theorem State.withoutView_view (s : State) :
    s.withoutView.view = s.view := rfl
@[simp] theorem State.withoutView_buf (s : State) :
    s.withoutView.buf = s.buf := rfl
@[simp] theorem State.withoutView_resetCount (s : State) :
    s.withoutView.resetCount = s.resetCount := rfl
@[simp] theorem State.withoutView_pending (s : State) :
    s.withoutView.pending = s.pending := rfl
@[simp] theorem State.withoutView_returned (s : State) :
    s.withoutView.returned = s.returned := rfl

/-! What `State.withDatagram` does to each field. -/

@[simp] theorem State.withDatagram_cmd (s : State) (n : Nat) (bs : List Byte) :
    (s.withDatagram n bs).cmd = s.cmd := rfl
@[simp] theorem State.withDatagram_status (s : State) (n : Nat) (bs : List Byte) :
    (s.withDatagram n bs).status = s.status := rfl
@[simp] theorem State.withDatagram_sticky (s : State) (n : Nat) (bs : List Byte) :
    (s.withDatagram n bs).sticky = s.sticky := rfl
@[simp] theorem State.withDatagram_res (s : State) (n : Nat) (bs : List Byte) :
    (s.withDatagram n bs).res = s.res := rfl
@[simp] theorem State.withDatagram_opa (s : State) (n : Nat) (bs : List Byte) :
    (s.withDatagram n bs).opa = s.opa := rfl
@[simp] theorem State.withDatagram_opb (s : State) (n : Nat) (bs : List Byte) :
    (s.withDatagram n bs).opb = s.opb := rfl
@[simp] theorem State.withDatagram_opc (s : State) (n : Nat) (bs : List Byte) :
    (s.withDatagram n bs).opc = s.opc := rfl
@[simp] theorem State.withDatagram_rxlen (s : State) (n : Nat) (bs : List Byte) :
    (s.withDatagram n bs).rxlen = s.rxlen := rfl
@[simp] theorem State.withDatagram_txlen (s : State) (n : Nat) (bs : List Byte) :
    (s.withDatagram n bs).txlen = BitVec.ofNat 16 n := rfl
@[simp] theorem State.withDatagram_txvalid (s : State) (n : Nat) (bs : List Byte) :
    (s.withDatagram n bs).txvalid = true := rfl
@[simp] theorem State.withDatagram_initWnd (s : State) (n : Nat) (bs : List Byte) :
    (s.withDatagram n bs).initWnd = s.initWnd := rfl
@[simp] theorem State.withDatagram_autoclose (s : State) (n : Nat) (bs : List Byte) :
    (s.withDatagram n bs).autoclose = s.autoclose := rfl
@[simp] theorem State.withDatagram_slen (s : State) (n : Nat) (bs : List Byte) :
    (s.withDatagram n bs).slen = s.slen := rfl
@[simp] theorem State.withDatagram_wend (s : State) (n : Nat) (bs : List Byte) :
    (s.withDatagram n bs).wend = s.wend := rfl
@[simp] theorem State.withDatagram_tcb (s : State) (n : Nat) (bs : List Byte) :
    (s.withDatagram n bs).tcb = s.tcb := rfl
@[simp] theorem State.withDatagram_vValid (s : State) (n : Nat) (bs : List Byte) :
    (s.withDatagram n bs).vValid = s.vValid := rfl
@[simp] theorem State.withDatagram_view (s : State) (n : Nat) (bs : List Byte) :
    (s.withDatagram n bs).view = s.view := rfl
@[simp] theorem State.withDatagram_buf (s : State) (n : Nat) (bs : List Byte) :
    (s.withDatagram n bs).buf = s.buf.setBytes txBase bs := rfl
@[simp] theorem State.withDatagram_resetCount (s : State) (n : Nat) (bs : List Byte) :
    (s.withDatagram n bs).resetCount = s.resetCount := rfl
@[simp] theorem State.withDatagram_pending (s : State) (n : Nat) (bs : List Byte) :
    (s.withDatagram n bs).pending = s.pending := rfl
@[simp] theorem State.withDatagram_returned (s : State) (n : Nat) (bs : List Byte) :
    (s.withDatagram n bs).returned = s.returned := rfl

/-! What `State.withReturned` does to each field. -/

@[simp] theorem State.withReturned_cmd (s : State) (d : BusData) :
    (s.withReturned d).cmd = s.cmd := rfl
@[simp] theorem State.withReturned_status (s : State) (d : BusData) :
    (s.withReturned d).status = s.status := rfl
@[simp] theorem State.withReturned_sticky (s : State) (d : BusData) :
    (s.withReturned d).sticky = s.sticky := rfl
@[simp] theorem State.withReturned_res (s : State) (d : BusData) :
    (s.withReturned d).res = s.res := rfl
@[simp] theorem State.withReturned_opa (s : State) (d : BusData) :
    (s.withReturned d).opa = s.opa := rfl
@[simp] theorem State.withReturned_opb (s : State) (d : BusData) :
    (s.withReturned d).opb = s.opb := rfl
@[simp] theorem State.withReturned_opc (s : State) (d : BusData) :
    (s.withReturned d).opc = s.opc := rfl
@[simp] theorem State.withReturned_rxlen (s : State) (d : BusData) :
    (s.withReturned d).rxlen = s.rxlen := rfl
@[simp] theorem State.withReturned_txlen (s : State) (d : BusData) :
    (s.withReturned d).txlen = s.txlen := rfl
@[simp] theorem State.withReturned_txvalid (s : State) (d : BusData) :
    (s.withReturned d).txvalid = s.txvalid := rfl
@[simp] theorem State.withReturned_initWnd (s : State) (d : BusData) :
    (s.withReturned d).initWnd = s.initWnd := rfl
@[simp] theorem State.withReturned_autoclose (s : State) (d : BusData) :
    (s.withReturned d).autoclose = s.autoclose := rfl
@[simp] theorem State.withReturned_slen (s : State) (d : BusData) :
    (s.withReturned d).slen = s.slen := rfl
@[simp] theorem State.withReturned_wend (s : State) (d : BusData) :
    (s.withReturned d).wend = s.wend := rfl
@[simp] theorem State.withReturned_tcb (s : State) (d : BusData) :
    (s.withReturned d).tcb = s.tcb := rfl
@[simp] theorem State.withReturned_vValid (s : State) (d : BusData) :
    (s.withReturned d).vValid = s.vValid := rfl
@[simp] theorem State.withReturned_view (s : State) (d : BusData) :
    (s.withReturned d).view = s.view := rfl
@[simp] theorem State.withReturned_buf (s : State) (d : BusData) :
    (s.withReturned d).buf = s.buf := rfl
@[simp] theorem State.withReturned_resetCount (s : State) (d : BusData) :
    (s.withReturned d).resetCount = s.resetCount := rfl
@[simp] theorem State.withReturned_pending (s : State) (d : BusData) :
    (s.withReturned d).pending = s.pending := rfl
@[simp] theorem State.withReturned_returned (s : State) (d : BusData) :
    (s.withReturned d).returned = d :: s.returned := rfl

/-! What `State.withPending` does to each field. -/

@[simp] theorem State.withPending_cmd (s : State) (es : List HostEvent) :
    (s.withPending es).cmd = s.cmd := rfl
@[simp] theorem State.withPending_status (s : State) (es : List HostEvent) :
    (s.withPending es).status = s.status := rfl
@[simp] theorem State.withPending_sticky (s : State) (es : List HostEvent) :
    (s.withPending es).sticky = s.sticky := rfl
@[simp] theorem State.withPending_res (s : State) (es : List HostEvent) :
    (s.withPending es).res = s.res := rfl
@[simp] theorem State.withPending_opa (s : State) (es : List HostEvent) :
    (s.withPending es).opa = s.opa := rfl
@[simp] theorem State.withPending_opb (s : State) (es : List HostEvent) :
    (s.withPending es).opb = s.opb := rfl
@[simp] theorem State.withPending_opc (s : State) (es : List HostEvent) :
    (s.withPending es).opc = s.opc := rfl
@[simp] theorem State.withPending_rxlen (s : State) (es : List HostEvent) :
    (s.withPending es).rxlen = s.rxlen := rfl
@[simp] theorem State.withPending_txlen (s : State) (es : List HostEvent) :
    (s.withPending es).txlen = s.txlen := rfl
@[simp] theorem State.withPending_txvalid (s : State) (es : List HostEvent) :
    (s.withPending es).txvalid = s.txvalid := rfl
@[simp] theorem State.withPending_initWnd (s : State) (es : List HostEvent) :
    (s.withPending es).initWnd = s.initWnd := rfl
@[simp] theorem State.withPending_autoclose (s : State) (es : List HostEvent) :
    (s.withPending es).autoclose = s.autoclose := rfl
@[simp] theorem State.withPending_slen (s : State) (es : List HostEvent) :
    (s.withPending es).slen = s.slen := rfl
@[simp] theorem State.withPending_wend (s : State) (es : List HostEvent) :
    (s.withPending es).wend = s.wend := rfl
@[simp] theorem State.withPending_tcb (s : State) (es : List HostEvent) :
    (s.withPending es).tcb = s.tcb := rfl
@[simp] theorem State.withPending_vValid (s : State) (es : List HostEvent) :
    (s.withPending es).vValid = s.vValid := rfl
@[simp] theorem State.withPending_view (s : State) (es : List HostEvent) :
    (s.withPending es).view = s.view := rfl
@[simp] theorem State.withPending_buf (s : State) (es : List HostEvent) :
    (s.withPending es).buf = s.buf := rfl
@[simp] theorem State.withPending_resetCount (s : State) (es : List HostEvent) :
    (s.withPending es).resetCount = s.resetCount := rfl
@[simp] theorem State.withPending_pending (s : State) (es : List HostEvent) :
    (s.withPending es).pending = es := rfl
@[simp] theorem State.withPending_returned (s : State) (es : List HostEvent) :
    (s.withPending es).returned = s.returned := rfl

/-! What `State.startCommand` does to each field. -/

@[simp] theorem State.startCommand_cmd (s : State) :
    s.startCommand.cmd = s.cmd := rfl
@[simp] theorem State.startCommand_status (s : State) :
    s.startCommand.status = .ok := rfl
@[simp] theorem State.startCommand_sticky (s : State) :
    s.startCommand.sticky = s.sticky := rfl
@[simp] theorem State.startCommand_res (s : State) :
    s.startCommand.res = s.res := rfl
@[simp] theorem State.startCommand_opa (s : State) :
    s.startCommand.opa = s.opa := rfl
@[simp] theorem State.startCommand_opb (s : State) :
    s.startCommand.opb = s.opb := rfl
@[simp] theorem State.startCommand_opc (s : State) :
    s.startCommand.opc = s.opc := rfl
@[simp] theorem State.startCommand_rxlen (s : State) :
    s.startCommand.rxlen = s.rxlen := rfl
@[simp] theorem State.startCommand_txlen (s : State) :
    s.startCommand.txlen = s.txlen := rfl
@[simp] theorem State.startCommand_txvalid (s : State) :
    s.startCommand.txvalid = false := rfl
@[simp] theorem State.startCommand_initWnd (s : State) :
    s.startCommand.initWnd = s.initWnd := rfl
@[simp] theorem State.startCommand_autoclose (s : State) :
    s.startCommand.autoclose = s.autoclose := rfl
@[simp] theorem State.startCommand_slen (s : State) :
    s.startCommand.slen = s.slen := rfl
@[simp] theorem State.startCommand_wend (s : State) :
    s.startCommand.wend = s.wend := rfl
@[simp] theorem State.startCommand_tcb (s : State) :
    s.startCommand.tcb = s.tcb := rfl
@[simp] theorem State.startCommand_vValid (s : State) :
    s.startCommand.vValid = s.vValid := rfl
@[simp] theorem State.startCommand_view (s : State) :
    s.startCommand.view = s.view := rfl
@[simp] theorem State.startCommand_buf (s : State) :
    s.startCommand.buf = s.buf := rfl
@[simp] theorem State.startCommand_resetCount (s : State) :
    s.startCommand.resetCount = s.resetCount := rfl
@[simp] theorem State.startCommand_pending (s : State) :
    s.startCommand.pending = s.pending := rfl
@[simp] theorem State.startCommand_returned (s : State) :
    s.startCommand.returned = s.returned := rfl

/-! What `State.afterReset` does to each field. -/

@[simp] theorem State.afterReset_cmd (s : State) :
    s.afterReset.cmd = State.reset.cmd := rfl
@[simp] theorem State.afterReset_status (s : State) :
    s.afterReset.status = State.reset.status := rfl
@[simp] theorem State.afterReset_sticky (s : State) :
    s.afterReset.sticky = State.reset.sticky := rfl
@[simp] theorem State.afterReset_res (s : State) :
    s.afterReset.res = State.reset.res := rfl
@[simp] theorem State.afterReset_opa (s : State) :
    s.afterReset.opa = State.reset.opa := rfl
@[simp] theorem State.afterReset_opb (s : State) :
    s.afterReset.opb = State.reset.opb := rfl
@[simp] theorem State.afterReset_opc (s : State) :
    s.afterReset.opc = State.reset.opc := rfl
@[simp] theorem State.afterReset_rxlen (s : State) :
    s.afterReset.rxlen = State.reset.rxlen := rfl
@[simp] theorem State.afterReset_txlen (s : State) :
    s.afterReset.txlen = State.reset.txlen := rfl
@[simp] theorem State.afterReset_txvalid (s : State) :
    s.afterReset.txvalid = State.reset.txvalid := rfl
@[simp] theorem State.afterReset_initWnd (s : State) :
    s.afterReset.initWnd = State.reset.initWnd := rfl
@[simp] theorem State.afterReset_autoclose (s : State) :
    s.afterReset.autoclose = State.reset.autoclose := rfl
@[simp] theorem State.afterReset_slen (s : State) :
    s.afterReset.slen = State.reset.slen := rfl
@[simp] theorem State.afterReset_wend (s : State) :
    s.afterReset.wend = State.reset.wend := rfl
@[simp] theorem State.afterReset_tcb (s : State) :
    s.afterReset.tcb = State.reset.tcb := rfl
@[simp] theorem State.afterReset_vValid (s : State) :
    s.afterReset.vValid = State.reset.vValid := rfl
@[simp] theorem State.afterReset_view (s : State) :
    s.afterReset.view = State.reset.view := rfl
@[simp] theorem State.afterReset_buf (s : State) :
    s.afterReset.buf = State.reset.buf := rfl
@[simp] theorem State.afterReset_resetCount (s : State) :
    s.afterReset.resetCount = s.resetCount + 1 := rfl
@[simp] theorem State.afterReset_pending (s : State) :
    s.afterReset.pending = s.pending := rfl
@[simp] theorem State.afterReset_returned (s : State) :
    s.afterReset.returned = s.returned := rfl

/-! What `State.enter` does: STATE, and no other register. -/

@[simp] theorem State.enter_cmd (s : State) (st : TcbState) :
    (s.enter st).cmd = s.cmd := rfl
@[simp] theorem State.enter_status (s : State) (st : TcbState) :
    (s.enter st).status = s.status := rfl
@[simp] theorem State.enter_sticky (s : State) (st : TcbState) :
    (s.enter st).sticky = s.sticky := rfl
@[simp] theorem State.enter_res (s : State) (st : TcbState) :
    (s.enter st).res = s.res := rfl
@[simp] theorem State.enter_opa (s : State) (st : TcbState) :
    (s.enter st).opa = s.opa := rfl
@[simp] theorem State.enter_opb (s : State) (st : TcbState) :
    (s.enter st).opb = s.opb := rfl
@[simp] theorem State.enter_opc (s : State) (st : TcbState) :
    (s.enter st).opc = s.opc := rfl
@[simp] theorem State.enter_rxlen (s : State) (st : TcbState) :
    (s.enter st).rxlen = s.rxlen := rfl
@[simp] theorem State.enter_txlen (s : State) (st : TcbState) :
    (s.enter st).txlen = s.txlen := rfl
@[simp] theorem State.enter_txvalid (s : State) (st : TcbState) :
    (s.enter st).txvalid = s.txvalid := rfl
@[simp] theorem State.enter_initWnd (s : State) (st : TcbState) :
    (s.enter st).initWnd = s.initWnd := rfl
@[simp] theorem State.enter_autoclose (s : State) (st : TcbState) :
    (s.enter st).autoclose = s.autoclose := rfl
@[simp] theorem State.enter_slen (s : State) (st : TcbState) :
    (s.enter st).slen = s.slen := rfl
@[simp] theorem State.enter_wend (s : State) (st : TcbState) :
    (s.enter st).wend = s.wend := rfl
@[simp] theorem State.enter_tcb (s : State) (st : TcbState) :
    (s.enter st).tcb = { s.tcb with state := st } := rfl
@[simp] theorem State.enter_vValid (s : State) (st : TcbState) :
    (s.enter st).vValid = s.vValid := rfl
@[simp] theorem State.enter_view (s : State) (st : TcbState) :
    (s.enter st).view = s.view := rfl
@[simp] theorem State.enter_buf (s : State) (st : TcbState) :
    (s.enter st).buf = s.buf := rfl
@[simp] theorem State.enter_resetCount (s : State) (st : TcbState) :
    (s.enter st).resetCount = s.resetCount := rfl
@[simp] theorem State.enter_pending (s : State) (st : TcbState) :
    (s.enter st).pending = s.pending := rfl
@[simp] theorem State.enter_returned (s : State) (st : TcbState) :
    (s.enter st).returned = s.returned := rfl

/-! What `State.recordAcc` does: RES, SLEN and WEND. -/

@[simp] theorem State.recordAcc_cmd (s : State) (a : Acc) :
    (s.recordAcc a).cmd = s.cmd := rfl
@[simp] theorem State.recordAcc_status (s : State) (a : Acc) :
    (s.recordAcc a).status = s.status := rfl
@[simp] theorem State.recordAcc_sticky (s : State) (a : Acc) :
    (s.recordAcc a).sticky = s.sticky := rfl
@[simp] theorem State.recordAcc_res (s : State) (a : Acc) :
    (s.recordAcc a).res = a.ok := rfl
@[simp] theorem State.recordAcc_opa (s : State) (a : Acc) :
    (s.recordAcc a).opa = s.opa := rfl
@[simp] theorem State.recordAcc_opb (s : State) (a : Acc) :
    (s.recordAcc a).opb = s.opb := rfl
@[simp] theorem State.recordAcc_opc (s : State) (a : Acc) :
    (s.recordAcc a).opc = s.opc := rfl
@[simp] theorem State.recordAcc_rxlen (s : State) (a : Acc) :
    (s.recordAcc a).rxlen = s.rxlen := rfl
@[simp] theorem State.recordAcc_txlen (s : State) (a : Acc) :
    (s.recordAcc a).txlen = s.txlen := rfl
@[simp] theorem State.recordAcc_txvalid (s : State) (a : Acc) :
    (s.recordAcc a).txvalid = s.txvalid := rfl
@[simp] theorem State.recordAcc_initWnd (s : State) (a : Acc) :
    (s.recordAcc a).initWnd = s.initWnd := rfl
@[simp] theorem State.recordAcc_autoclose (s : State) (a : Acc) :
    (s.recordAcc a).autoclose = s.autoclose := rfl
@[simp] theorem State.recordAcc_slen (s : State) (a : Acc) :
    (s.recordAcc a).slen = a.slen := rfl
@[simp] theorem State.recordAcc_wend (s : State) (a : Acc) :
    (s.recordAcc a).wend = a.wend := rfl
@[simp] theorem State.recordAcc_tcb (s : State) (a : Acc) :
    (s.recordAcc a).tcb = s.tcb := rfl
@[simp] theorem State.recordAcc_vValid (s : State) (a : Acc) :
    (s.recordAcc a).vValid = s.vValid := rfl
@[simp] theorem State.recordAcc_view (s : State) (a : Acc) :
    (s.recordAcc a).view = s.view := rfl
@[simp] theorem State.recordAcc_buf (s : State) (a : Acc) :
    (s.recordAcc a).buf = s.buf := rfl
@[simp] theorem State.recordAcc_resetCount (s : State) (a : Acc) :
    (s.recordAcc a).resetCount = s.resetCount := rfl
@[simp] theorem State.recordAcc_pending (s : State) (a : Acc) :
    (s.recordAcc a).pending = s.pending := rfl
@[simp] theorem State.recordAcc_returned (s : State) (a : Acc) :
    (s.recordAcc a).returned = s.returned := rfl

/-! What `stageAdvance` does: RCV_NXT, and no other register. -/

@[simp] theorem stageAdvance_cmd (s : State) :
    (stageAdvance s).cmd = s.cmd := rfl
@[simp] theorem stageAdvance_status (s : State) :
    (stageAdvance s).status = s.status := rfl
@[simp] theorem stageAdvance_sticky (s : State) :
    (stageAdvance s).sticky = s.sticky := rfl
@[simp] theorem stageAdvance_res (s : State) :
    (stageAdvance s).res = s.res := rfl
@[simp] theorem stageAdvance_opa (s : State) :
    (stageAdvance s).opa = s.opa := rfl
@[simp] theorem stageAdvance_opb (s : State) :
    (stageAdvance s).opb = s.opb := rfl
@[simp] theorem stageAdvance_opc (s : State) :
    (stageAdvance s).opc = s.opc := rfl
@[simp] theorem stageAdvance_rxlen (s : State) :
    (stageAdvance s).rxlen = s.rxlen := rfl
@[simp] theorem stageAdvance_txlen (s : State) :
    (stageAdvance s).txlen = s.txlen := rfl
@[simp] theorem stageAdvance_txvalid (s : State) :
    (stageAdvance s).txvalid = s.txvalid := rfl
@[simp] theorem stageAdvance_initWnd (s : State) :
    (stageAdvance s).initWnd = s.initWnd := rfl
@[simp] theorem stageAdvance_autoclose (s : State) :
    (stageAdvance s).autoclose = s.autoclose := rfl
@[simp] theorem stageAdvance_slen (s : State) :
    (stageAdvance s).slen = s.slen := rfl
@[simp] theorem stageAdvance_wend (s : State) :
    (stageAdvance s).wend = s.wend := rfl
@[simp] theorem stageAdvance_tcb (s : State) :
    (stageAdvance s).tcb = { s.tcb with rcvNxt := s.view.seq + (segmentAcc s.tcb s.view).slen } := rfl
@[simp] theorem stageAdvance_vValid (s : State) :
    (stageAdvance s).vValid = s.vValid := rfl
@[simp] theorem stageAdvance_view (s : State) :
    (stageAdvance s).view = s.view := rfl
@[simp] theorem stageAdvance_buf (s : State) :
    (stageAdvance s).buf = s.buf := rfl
@[simp] theorem stageAdvance_resetCount (s : State) :
    (stageAdvance s).resetCount = s.resetCount := rfl
@[simp] theorem stageAdvance_pending (s : State) :
    (stageAdvance s).pending = s.pending := rfl
@[simp] theorem stageAdvance_returned (s : State) :
    (stageAdvance s).returned = s.returned := rfl

/-! The cleared TCB group: every register is 0 (10_state.md R58). -/

@[simp] theorem Tcb.cleared_state : Tcb.cleared.state = .closed := rfl
@[simp] theorem Tcb.cleared_sndUna : Tcb.cleared.sndUna = 0 := rfl
@[simp] theorem Tcb.cleared_sndNxt : Tcb.cleared.sndNxt = 0 := rfl
@[simp] theorem Tcb.cleared_sndWnd : Tcb.cleared.sndWnd = 0 := rfl
@[simp] theorem Tcb.cleared_sndUp : Tcb.cleared.sndUp = false := rfl
@[simp] theorem Tcb.cleared_sndWl1 : Tcb.cleared.sndWl1 = 0 := rfl
@[simp] theorem Tcb.cleared_sndWl2 : Tcb.cleared.sndWl2 = 0 := rfl
@[simp] theorem Tcb.cleared_sndIss : Tcb.cleared.sndIss = 0 := rfl
@[simp] theorem Tcb.cleared_rcvNxt : Tcb.cleared.rcvNxt = 0 := rfl
@[simp] theorem Tcb.cleared_rcvWnd : Tcb.cleared.rcvWnd = 0 := rfl
@[simp] theorem Tcb.cleared_rcvUp : Tcb.cleared.rcvUp = false := rfl
@[simp] theorem Tcb.cleared_rcvIrs : Tcb.cleared.rcvIrs = 0 := rfl
@[simp] theorem Tcb.cleared_tplLaddr : Tcb.cleared.tplLaddr = 0 := rfl
@[simp] theorem Tcb.cleared_tplRaddr : Tcb.cleared.tplRaddr = 0 := rfl
@[simp] theorem Tcb.cleared_tplPorts : Tcb.cleared.tplPorts = 0 := rfl
@[simp] theorem Tcb.cleared_tplFlags : Tcb.cleared.tplFlags = 0 := rfl

end Sys2Proof.Machine
end

