-- ==== Sys2Proof/Laws/Memory.lean ====
section
/-! SUPPORT. The laws of buffer space: a byte reads as last written, a write leaves every other byte alone, and
every memory operation keeps the canonical form. -/

namespace Sys2Proof.Machine

/-- Read after write, at the written address and at every other. -/
@[simp] theorem Memory.byteAt_setByte (m : Memory) (a a' : Nat) (b : Byte) :
    (m.setByte a b).byteAt a' = if a = a' then some b else m.byteAt a' := by
  induction m with
  | nil => simp [Memory.setByte, Memory.byteAt]
  | cons c m ih =>
    obtain ⟨k, c⟩ := c
    simp only [Memory.setByte]
    split
    · simp [Memory.byteAt]
    · split
      · subst k
        by_cases h : a = a' <;> simp [Memory.byteAt, h]
      · rename_i hk
        simp only [Memory.byteAt, ih]
        by_cases h : k = a'
        · subst h
          simp [show ¬a = k from fun e => hk e]
        · simp [h]

/-- Reading after a run of bytes is written at rising addresses. -/
theorem Memory.byteAt_setBytes (bs : List Byte) (m : Memory) (a a' : Nat) :
    (m.setBytes a bs).byteAt a' =
      if a ≤ a' ∧ a' < a + bs.length then bs[a' - a]? else m.byteAt a' := by
  induction bs generalizing m a with
  | nil =>
    have : ¬(a ≤ a' ∧ a' < a) := by omega
    simp [Memory.setBytes, this]
  | cons b bs ih =>
    simp only [Memory.setBytes, ih, Memory.byteAt_setByte, List.length_cons]
    by_cases h : a = a'
    · subst h
      simp
    · by_cases h1 : a + 1 ≤ a' ∧ a' < a + 1 + bs.length
      · have h2 : a ≤ a' ∧ a' < a + (bs.length + 1) := by omega
        have h3 : a' - a = (a' - (a + 1)) + 1 := by omega
        simp [h1, h2, h3]
      · have h2 : ¬(a ≤ a' ∧ a' < a + (bs.length + 1)) := by omega
        rw [if_neg h, if_neg h1, if_neg h2]

/-- Every cell of a memory after a write is the written one or an earlier one. -/
theorem Memory.mem_setByte (m : Memory) (a : Nat) (b : Byte) (c : Host.Cell)
    (h : c ∈ m.setByte a b) : c = (a, b) ∨ c ∈ m := by
  induction m with
  | nil => simpa [Memory.setByte] using h
  | cons d m ih =>
    obtain ⟨k, e⟩ := d
    simp only [Memory.setByte] at h
    split at h
    · simpa [or_assoc] using h
    · split at h
      · rcases List.mem_cons.1 h with h | h
        · exact .inl h
        · exact .inr (List.mem_cons_of_mem _ h)
      · rcases List.mem_cons.1 h with h | h
        · exact .inr (by simp [h])
        · exact (ih h).imp id (List.mem_cons_of_mem _)

/-- Writing a byte at an address that a write can reach keeps the canonical form. -/
theorem Memory.setByte_wf (m : Memory) (a : Nat) (b : Byte) (ha : writable a = true)
    (h : m.wf) : (m.setByte a b).wf := by
  obtain ⟨hs, hw⟩ := h
  refine ⟨?_, fun c hc => ?_⟩
  · clear hw
    induction m with
    | nil => simp [Memory.setByte]
    | cons d m ih =>
      obtain ⟨k, e⟩ := d
      obtain ⟨hd, hm⟩ := List.pairwise_cons.1 hs
      simp only [Memory.setByte]
      split
      · rename_i hak
        refine List.pairwise_cons.2 ⟨fun x hx => ?_, hs⟩
        rcases List.mem_cons.1 hx with rfl | hx
        · exact hak
        · exact Nat.lt_trans hak (hd x hx)
      · split
        · subst k
          exact List.pairwise_cons.2 ⟨hd, hm⟩
        · refine List.pairwise_cons.2 ⟨fun x hx => ?_, ih hm⟩
          rcases Memory.mem_setByte m a b x hx with rfl | hx
          · simp only at *
            omega
          · exact hd x hx
  · rcases Memory.mem_setByte m a b c hc with rfl | hc
    · exact ha
    · exact hw c hc

/-- Writing bytes at addresses that a write can reach keeps the canonical form. -/
theorem Memory.setBytes_wf (bs : List Byte) (m : Memory) (a : Nat)
    (ha : ∀ i, i < bs.length → writable (a + i) = true) (h : m.wf) : (m.setBytes a bs).wf := by
  induction bs generalizing m a with
  | nil => exact h
  | cons b bs ih =>
    refine ih _ _ (fun i hi => ?_) (Memory.setByte_wf m a b (by simpa using ha 0 (by simp)) h)
    have := ha (i + 1) (by simpa using hi)
    rwa [show a + 1 + i = a + (i + 1) by omega]

/-- Memory after reset is in canonical form. -/
theorem State.reset_buf_wf : State.reset.buf.wf := by
  exact ⟨List.Pairwise.nil, by simp [State.reset]⟩

end Sys2Proof.Machine
end

