-- ==== Sys2Proof/Laws/Ops.lean ====
section
/-! SUPPORT. One lemma for each shared operation that says once everything it can do. -/

namespace Sys2Proof.Machine

/-! Ending a command (60_exceptions.md R445, 00_scope.md R20). -/

/-- A command that ends OK ends with nothing changed. -/
theorem State.endCommand_ok (s : State) (h : s.status = .ok) : s.endCommand = s := by
  simp [State.endCommand, h]

/-- A raise sets STATUS, and the STICKY bit of a code other than OK. -/
theorem State.raiseStatus_eq (c : Status) (s : State) :
    s.raiseStatus c =
      { s with
        status := c
        sticky := if c = .ok then s.sticky else s.sticky ||| c.stickyBit } := by
  by_cases h : c = .ok <;> simp [State.raiseStatus, State.endCommand, h]

@[simp] theorem Flow.finish_go (s : State) : (Flow.go s).finish = s.endCommand := rfl

@[simp] theorem Flow.finish_raise (c : Status) (s : State) :
    (Flow.raise c s).finish = s.raiseStatus c := rfl

@[simp] theorem Flow.andThen_go (s : State) (f : State → Flow) : (Flow.go s).andThen f = f s := rfl

@[simp] theorem Flow.andThen_raise (c : Status) (s : State) (f : State → Flow) :
    (Flow.raise c s).andThen f = .raise c s := rfl

/-! PARSE_FRAME (45_frame.md R390, R396). -/

/-- PARSE_FRAME on a frame that passes every check. -/
theorem parseFrame_ok (s : State) (v : View) (h : s.frame = .ok v) :
    parseFrame s = .go (s.withView v) := by
  simp [parseFrame, h]

/-- PARSE_FRAME on a frame that fails a check. -/
theorem parseFrame_error (s : State) (c : Status) (h : s.frame = .error c) :
    parseFrame s = .raise c s.withoutView := by
  simp [parseFrame, h]

/-- The frame in RXBUF depends on RXLEN, on the written bytes and on the draws, and on nothing else. -/
theorem State.frame_congr (s t : State) (h1 : t.rxlen = s.rxlen) (h2 : t.buf = s.buf)
    (h3 : t.resetCount = s.resetCount) : t.frame = s.frame := by
  have : t.rx = s.rx := by
    funext i
    simp [State.rx, State.bufByte, h2, h3]
  simp [State.frame, h1, this]

@[simp] theorem State.startCommand_frame (s : State) : s.startCommand.frame = s.frame :=
  State.frame_congr _ _ rfl rfl rfl

@[simp] theorem State.withRes_frame (s : State) (b : Bool) : (s.withRes b).frame = s.frame :=
  State.frame_congr _ _ rfl rfl rfl

/-! Big-endian fields (20_memory.md R102), and the end-around carry (43_emit.md R316). -/

/-- A 16-bit field is its high byte times 256 plus its low byte. -/
theorem half16_toNat (rx : Nat → Byte) (i : Nat) :
    (half16 rx i).toNat = (rx i).toNat * 256 + (rx (i + 1)).toNat := by
  have low := (rx (i + 1)).isLt
  simp only [half16, BitVec.setWidth_eq, BitVec.toNat_append]
  rw [← Nat.shiftLeft_add_eq_or_of_lt low, Nat.shiftLeft_eq]

/-- A 32-bit field is its high half times 65536 plus its low half. -/
theorem word32_toNat (rx : Nat → Byte) (i : Nat) :
    (word32 rx i).toNat = (half16 rx i).toNat * 65536 + (half16 rx (i + 2)).toNat := by
  have b1 := (rx (i + 1)).isLt
  have b2 := (rx (i + 2)).isLt
  have b3 := (rx (i + 3)).isLt
  rw [half16_toNat, half16_toNat]
  simp only [word32, BitVec.setWidth_eq, BitVec.toNat_append]
  rw [← Nat.shiftLeft_add_eq_or_of_lt b3, ← Nat.shiftLeft_add_eq_or_of_lt b2,
    ← Nat.shiftLeft_add_eq_or_of_lt b1]
  simp only [Nat.shiftLeft_eq, show i + 2 + 1 = i + 3 from rfl]
  omega

/-- Folding the carry of a sum of two 16-bit numbers leaves 16 bits, keeps the sum modulo 65535, and gives 0
only from 0. -/
theorem endAround_spec (s : Nat) (h : s ≤ 131070) :
    endAround s ≤ 65535 ∧ endAround s % 65535 = s % 65535 ∧ (endAround s = 0 ↔ s = 0) := by
  unfold endAround
  omega

/-! EMIT (43_emit.md R310 to R323). -/

@[simp] theorem halfBytes_length (h : Half) : (halfBytes h).length = 2 := rfl

@[simp] theorem wordBytes_length (w : Word) : (wordBytes w).length = 4 := rfl

@[simp] theorem ipv4Header_length (n : Nat) (ttl : Byte) (t : Tcb) (c : Half) :
    (ipv4Header n ttl t c).length = 20 := by
  simp [ipv4Header]

@[simp] theorem tcpHeader_length (t : Tcb) (c : Half) : (tcpHeader t c).length = 20 := by
  simp [tcpHeader]

/-- A datagram of 40 bytes is both headers whole: the cut to `n` bytes removes nothing. -/
theorem datagram_forty (ttl : Byte) (t : Tcb) :
    datagram 40 ttl t =
      ipv4Header 40 ttl t (csum (ipv4Header 40 ttl t 0))
        ++ tcpHeader t (csum (pseudoHeader t 20 ++ tcpHeader t 0)) := by
  rw [datagram, List.take_of_length_le]
  rw [List.length_append, ipv4Header_length, tcpHeader_length]

@[simp] theorem datagram_forty_length (ttl : Byte) (t : Tcb) : (datagram 40 ttl t).length = 40 := by
  rw [datagram_forty, List.length_append, ipv4Header_length, tcpHeader_length]

/-- SND_NXT and TPL_FLAGS are all that the bookkeeping after an emission changes. -/
theorem Tcb.afterEmission_eq (t : Tcb) :
    t.afterEmission = { t with sndNxt := t.afterEmission.sndNxt, tplFlags := t.afterEmission.tplFlags } := by
  unfold Tcb.afterEmission Tcb.afterPayload Tcb.afterFin Tcb.afterSyn
  split <;> split <;> rfl

/-- What `emit` does to each field. -/
theorem emit_eq (s : State) :
    emit s =
      { s with
        buf := s.buf.setBytes txBase (datagram datagramLen Config.pTtl s.tcb)
        txlen := BitVec.ofNat 16 datagramLen
        txvalid := true
        tcb := s.tcb.afterEmission } := by
  simp only [emit, State.withTcb, State.withDatagram]

/-- Every emission is 40 bytes long, whatever `P_MTU` is in its range (R312). -/
@[simp] theorem datagramLen_eq : datagramLen = 40 := by
  simp [datagramLen, payloadLen, Config.pMtu]

/-! What `emit` does to each field. -/

@[simp] theorem emit_cmd (s : State) :
    (emit s).cmd = s.cmd := by
  rw [emit_eq]

@[simp] theorem emit_status (s : State) :
    (emit s).status = s.status := by
  rw [emit_eq]

@[simp] theorem emit_sticky (s : State) :
    (emit s).sticky = s.sticky := by
  rw [emit_eq]

@[simp] theorem emit_res (s : State) :
    (emit s).res = s.res := by
  rw [emit_eq]

@[simp] theorem emit_opa (s : State) :
    (emit s).opa = s.opa := by
  rw [emit_eq]

@[simp] theorem emit_opb (s : State) :
    (emit s).opb = s.opb := by
  rw [emit_eq]

@[simp] theorem emit_opc (s : State) :
    (emit s).opc = s.opc := by
  rw [emit_eq]

@[simp] theorem emit_rxlen (s : State) :
    (emit s).rxlen = s.rxlen := by
  rw [emit_eq]

@[simp] theorem emit_txlen (s : State) :
    (emit s).txlen = BitVec.ofNat 16 datagramLen := by
  rw [emit_eq]

@[simp] theorem emit_txvalid (s : State) :
    (emit s).txvalid = true := by
  rw [emit_eq]

@[simp] theorem emit_initWnd (s : State) :
    (emit s).initWnd = s.initWnd := by
  rw [emit_eq]

@[simp] theorem emit_autoclose (s : State) :
    (emit s).autoclose = s.autoclose := by
  rw [emit_eq]

@[simp] theorem emit_slen (s : State) :
    (emit s).slen = s.slen := by
  rw [emit_eq]

@[simp] theorem emit_wend (s : State) :
    (emit s).wend = s.wend := by
  rw [emit_eq]

@[simp] theorem emit_tcb (s : State) :
    (emit s).tcb = s.tcb.afterEmission := by
  rw [emit_eq]

@[simp] theorem emit_vValid (s : State) :
    (emit s).vValid = s.vValid := by
  rw [emit_eq]

@[simp] theorem emit_view (s : State) :
    (emit s).view = s.view := by
  rw [emit_eq]

@[simp] theorem emit_buf (s : State) :
    (emit s).buf = s.buf.setBytes txBase (datagram datagramLen Config.pTtl s.tcb) := by
  rw [emit_eq]

@[simp] theorem emit_resetCount (s : State) :
    (emit s).resetCount = s.resetCount := by
  rw [emit_eq]

@[simp] theorem emit_pending (s : State) :
    (emit s).pending = s.pending := by
  rw [emit_eq]

@[simp] theorem emit_returned (s : State) :
    (emit s).returned = s.returned := by
  rw [emit_eq]

/-- What `sendFin` does to each field. -/
theorem sendFin_eq (s : State) :
    sendFin s =
      (emit (s.withTcb { s.tcb with tplFlags := s.tcb.tplFlags ||| 0x01 })).enter .finWait1 := rfl

/-! The host's accesses. -/

/-- A host write to RXBUF stores the byte. -/
theorem State.writeBufAddr_rxbuf (s : State) (a : BufAddr) (b : Byte) (h : inRxbuf a.toNat = true) :
    s.writeBufAddr a b = { s with buf := s.buf.setByte a.toNat b } := by
  simp [State.writeBufAddr, h]

/-- A host write anywhere else in buffer space is ignored. -/
theorem State.writeBufAddr_ignored (s : State) (a : BufAddr) (b : Byte)
    (h : inRxbuf a.toNat = false) : s.writeBufAddr a b = s := by
  simp [State.writeBufAddr, h]

/-- A host write to CMD of a legal word. -/
theorem writeCmd_ok (w : Word) (s : State) (i : Instr) (h : decode w = .ok i) :
    writeCmd w s = exec i (s.withCmd w) := by
  simp [writeCmd, h]

/-- A host write to CMD of an illegal word. -/
theorem writeCmd_error (w : Word) (s : State) (e : IllegalWord) (h : decode w = .error e) :
    writeCmd w s = .next (illegalCommand (s.withCmd w)) := by
  simp [writeCmd, h]

end Sys2Proof.Machine
end

