-- ==== Sys2Proof/Laws/Commands.lean ====
section
/-! SUPPORT. What an emission does for the two flag bytes SEGMENT and CLOSE send, and one case lemma for each
command and for a host event: everything it can do, in terms of the shared operations. -/

namespace Sys2Proof.Machine

/-! Ending a command leaves every field but STATUS and STICKY. -/

@[simp] theorem State.raiseStatus_tcb (c : Status) (s : State) : (s.raiseStatus c).tcb = s.tcb := by
  rw [State.raiseStatus_eq]

@[simp] theorem State.raiseStatus_status (c : Status) (s : State) : (s.raiseStatus c).status = c := by
  rw [State.raiseStatus_eq]

@[simp] theorem State.raiseStatus_buf (c : Status) (s : State) : (s.raiseStatus c).buf = s.buf := by
  rw [State.raiseStatus_eq]

@[simp] theorem State.endCommand_tcb (s : State) : s.endCommand.tcb = s.tcb := by
  unfold State.endCommand
  split <;> rfl

@[simp] theorem State.endCommand_status (s : State) : s.endCommand.status = s.status := by
  unfold State.endCommand
  split <;> rfl

@[simp] theorem State.endCommand_buf (s : State) : s.endCommand.buf = s.buf := by
  unfold State.endCommand
  split <;> rfl

/-! Emissions. -/

/-- Sending an ACK alone changes nothing in the TCB group. -/
theorem Tcb.afterEmission_ack (t : Tcb) (h : t.tplFlags = 0x10) : t.afterEmission = t := by
  cases t
  simp only at h
  subst h
  simp [Tcb.afterEmission, Tcb.afterPayload, Tcb.afterFin, Tcb.afterSyn, synFlag, finFlag]

/-- Sending FIN and ACK advances SND_NXT by one and leaves ACK alone in the template. -/
theorem Tcb.afterEmission_finAck (t : Tcb) (h : t.tplFlags = 0x11) :
    t.afterEmission = { t with sndNxt := t.sndNxt + 1, tplFlags := 0x10 } := by
  cases t
  simp only at h
  subst h
  simp [Tcb.afterEmission, Tcb.afterPayload, Tcb.afterFin, Tcb.afterSyn, synFlag, finFlag]

/-- A datagram depends on seven registers of the TCB group only. -/
theorem datagram_congr (n : Nat) (ttl : Byte) (t t' : Tcb) (laddr : t.tplLaddr = t'.tplLaddr)
    (raddr : t.tplRaddr = t'.tplRaddr) (ports : t.tplPorts = t'.tplPorts)
    (nxt : t.sndNxt = t'.sndNxt) (rcv : t.rcvNxt = t'.rcvNxt) (wnd : t.sndWnd = t'.sndWnd)
    (flags : t.tplFlags = t'.tplFlags) : datagram n ttl t = datagram n ttl t' := by
  simp only [datagram, ipv4Header, tcpHeader, pseudoHeader, laddr, raddr, ports, nxt, rcv, wnd, flags]

/-- What storing a datagram at TXBUF means for every buffer byte. -/
theorem emittedInto_of_buf (s s' : State) (t : Tcb)
    (buf : s'.buf = s.buf.setBytes txBase (datagram 40 Config.pTtl t))
    (count : s'.resetCount = s.resetCount) : emittedInto s s' t := by
  constructor
  · intro i hi
    have inside : txBase ≤ txBase + i ∧ txBase + i < txBase + 40 := by omega
    simp only [State.bufByte, buf, Memory.byteAt_setBytes, datagram_forty_length, inside, and_self, if_true]
    have long : i < (datagram 40 Config.pTtl t).length := by simpa using hi
    simp [List.getElem?_eq_getElem long]
  · intro a ha
    simp [State.bufByte, buf, count, Memory.byteAt_setBytes, datagram_forty_length, ha]

/-! The commands that parse a frame. -/

/-- Everything PARSE can do. -/
theorem execParse_cases (s : State) :
    (∃ v, s.frame = .ok v ∧ execParse s = .next (s.startCommand.withView v).endCommand) ∨
    ∃ c, s.frame = .error c ∧ execParse s = .next (s.startCommand.withoutView.raiseStatus c) := by
  cases h : s.frame with
  | ok v => exact .inl ⟨v, rfl, by rw [execParse, parseFrame_ok _ v (by simpa using h)]; rfl⟩
  | error c => exact .inr ⟨c, rfl, by rw [execParse, parseFrame_error _ c (by simpa using h)]; rfl⟩

/-- Everything SYNRCV can do. -/
theorem execSynrcv_cases (s : State) :
    (∃ v, s.frame = .ok v ∧ execSynrcv s = .next (synrcvBody (s.startCommand.withView v)).finish) ∨
    ∃ c, s.frame = .error c ∧ execSynrcv s = .next (s.startCommand.withoutView.raiseStatus c) := by
  cases h : s.frame with
  | ok v => exact .inl ⟨v, rfl, by rw [execSynrcv, parseFrame_ok _ v (by simpa using h)]; rfl⟩
  | error c => exact .inr ⟨c, rfl, by rw [execSynrcv, parseFrame_error _ c (by simpa using h)]; rfl⟩

/-- Everything SEGMENT can do. -/
theorem execSegment_cases (s : State) :
    (∃ v, s.frame = .ok v ∧
      execSegment s = .next (segmentBody ((s.startCommand.withRes false).withView v)).finish) ∨
    ∃ c, s.frame = .error c ∧
      execSegment s = .next ((s.startCommand.withRes false).withoutView.raiseStatus c) := by
  cases h : s.frame with
  | ok v => exact .inl ⟨v, rfl, by rw [execSegment, parseFrame_ok _ v (by simpa using h)]; rfl⟩
  | error c => exact .inr ⟨c, rfl, by rw [execSegment, parseFrame_error _ c (by simpa using h)]; rfl⟩

/-- Everything SYNRCV can do after its parse. -/
theorem synrcvBody_cases (s : State) :
    (s.tcb.state ≠ .closed ∧ synrcvBody s = .raise .busy s) ∨
    (s.tcb.state = .closed ∧ synFlag s.view.flags = false ∧ synrcvBody s = .raise .notSyn s) ∨
    (s.tcb.state = .closed ∧ synFlag s.view.flags = true ∧ synrcvBody s = .go (openConnection s)) := by
  unfold synrcvBody
  by_cases closed : s.tcb.state = .closed <;> cases syn : synFlag s.view.flags <;> simp [closed]

/-- Everything SEGMENT can do after its parse. -/
theorem segmentBody_cases (s : State) :
    (s.tcb.state = .closed ∧ segmentBody s = .raise .closedIgnored s) ∨
    (s.tcb.state ≠ .closed ∧ (segmentAcc s.tcb s.view).ok = false ∧
      segmentBody s = .raise .unacceptable (emit (s.recordAcc (segmentAcc s.tcb s.view)))) ∨
    (s.tcb.state ≠ .closed ∧ (segmentAcc s.tcb s.view).ok = true ∧
      segmentBody s = segmentCascade (stageAdvance (s.recordAcc (segmentAcc s.tcb s.view)))) := by
  unfold segmentBody
  by_cases closed : s.tcb.state = .closed <;> cases ok : (segmentAcc s.tcb s.view).ok <;>
    simp [closed, ok]

/-- Everything CLOSE can do after the start of the command. -/
theorem closeBody_cases (s : State) :
    (s.tcb.state = .closed ∧ closeBody s = .raise .closedIgnored s) ∨
    (s.tcb.state ≠ .closed ∧ s.tcb.state ≠ .established ∧ closeBody s = .raise .protocolViolation s) ∨
    (s.tcb.state = .established ∧ closeBody s = .go (sendFin s)) := by
  unfold closeBody
  cases h : s.tcb.state <;> simp

/-- Everything stage S7 can do. -/
theorem stageFin_cases (s : State) :
    (finFlag s.view.flags = false ∧ stageFin s = .go s) ∨
    (finFlag s.view.flags = true ∧ s.tcb.state = .finWait2 ∧
      stageFin s = .go ((emit s).enter .timeWait)) ∨
    (finFlag s.view.flags = true ∧ s.tcb.state ≠ .finWait2 ∧
      stageFin s = .raise .protocolViolation s) := by
  unfold stageFin
  cases fin : finFlag s.view.flags <;> by_cases two : s.tcb.state = .finWait2 <;> simp [two]

/-! Host events. -/

/-- Everything a write to CMD can do. -/
theorem writeCmd_cases (w : Word) (s : State) :
    (∃ i, decode w = .ok i ∧ writeCmd w s = exec i (s.withCmd w)) ∨
    ∃ e, decode w = .error e ∧ writeCmd w s = .next (illegalCommand (s.withCmd w)) := by
  cases h : decode w with
  | ok i => exact .inl ⟨i, rfl, writeCmd_ok w s i h⟩
  | error e => exact .inr ⟨e, rfl, writeCmd_error w s e h⟩

/-- The register a number names, and the number it has (R72). -/
theorem Reg.ofNumber_eq_some (n : RegNo) (r : Reg) : Reg.ofNumber n = some r ↔ n = r.number := by
  constructor
  · revert n r
    unfold Reg.ofNumber
    intro n r h
    apply BitVec.eq_of_toNat_eq
    split at h <;> first | (cases h; simp_all [Reg.number]) | cases h
  · rintro rfl
    cases r <;> rfl

end Sys2Proof.Machine
end

