-- ==== Sys2Proof/Laws/Encoding.lean ====
section
/-! SUPPORT. The fields of a command word and the word of given fields undo each other. -/

namespace Sys2Proof

/-- The bits of the word of given fields. -/
theorem getLsbD_wordOf (c : CmdFields) (i : Nat) :
    (wordOf c).getLsbD i =
      if i < 8 then c.opc.getLsbD i
      else if i = 8 then c.synBit
      else if i = 9 then c.finBit
      else c.rsv.getLsbD (i - 10) := by
  simp only [wordOf, BitVec.getLsbD_setWidth, BitVec.getLsbD_append, BitVec.getLsbD_ofBool]
  by_cases h : i < 8
  · simp [h, show i < 32 by omega]
  · by_cases h8 : i = 8
    · simp [h8]
    · by_cases h9 : i = 9
      · simp [h9]
      · have e : i - 8 - 1 - 1 = i - 10 := by omega
        have n1 : ¬(i - 8 < 1) := by omega
        have n2 : ¬(i - 8 - 1 < 1) := by omega
        by_cases h32 : i < 32
        · simp [h, h8, h9, h32, e, n1, n2]
        · have : c.rsv.getLsbD (i - 10) = false := BitVec.getLsbD_of_ge _ _ (by omega)
          simp [h, h8, h9, h32, this]

/-- Taking a word apart after putting its fields together gives the fields back. -/
@[simp] theorem fieldsOf_wordOf (c : CmdFields) : fieldsOf (wordOf c) = c := by
  obtain ⟨o, s, f, r⟩ := c
  simp only [fieldsOf, CmdFields.mk.injEq]
  refine ⟨?_, ?_, ?_, ?_⟩
  · ext i hi
    simp [getLsbD_wordOf, hi]
  · rw [getLsbD_wordOf]
    rfl
  · rw [getLsbD_wordOf]
    rfl
  · ext i hi
    have n1 : ¬(10 + i < 8) := by omega
    have n2 : ¬(10 + i = 8) := by omega
    have n3 : ¬(10 + i = 9) := by omega
    simp [getLsbD_wordOf, n1, n2, n3, BitVec.getLsbD_eq_getElem hi]

/-- Putting a word's fields together again gives the word back. -/
@[simp] theorem wordOf_fieldsOf (w : Word) : wordOf (fieldsOf w) = w := by
  ext i hi
  rw [← BitVec.getLsbD_eq_getElem, ← BitVec.getLsbD_eq_getElem, getLsbD_wordOf]
  by_cases h : i < 8
  · simp [fieldsOf, h]
  · by_cases h8 : i = 8
    · simp [fieldsOf, h8]
    · by_cases h9 : i = 9
      · simp [fieldsOf, h9]
      · have e : 10 + (i - 10) = i := by omega
        have n : i - 10 < 22 := by omega
        simp [fieldsOf, h, h8, h9, e, n]

/-- The fields of an instruction's word. -/
theorem fieldsOf_encode (i : Instr) : fieldsOf (encode i) = i.fields := fieldsOf_wordOf _

end Sys2Proof
end

