-- ==== Sys2Proof/Laws/PerInstr.lean ====
section
/-! SUPPORT. Statements made for each instruction as syntax, one lemma per constructor. -/

namespace Sys2Proof

/-- The word an instruction encodes to passes the three checks of 30_encoding.md R143. -/
def Laws.EncodesLegally.Statement (i : Instr) : Prop :=
  i.wellFormed = true ∧ (fieldsOf (encode i)).wellFormed = true

theorem Laws.EncodesLegally.between : Laws.EncodesLegally.Statement .between := by
  rw [Laws.EncodesLegally.Statement, fieldsOf_encode]
  decide

theorem Laws.EncodesLegally.acceptable (syn fin : Bool) :
    Laws.EncodesLegally.Statement (.acceptable syn fin) := by
  rw [Laws.EncodesLegally.Statement, fieldsOf_encode]
  revert syn fin
  decide

theorem Laws.EncodesLegally.parse : Laws.EncodesLegally.Statement .parse := by
  rw [Laws.EncodesLegally.Statement, fieldsOf_encode]
  decide

theorem Laws.EncodesLegally.synrcv : Laws.EncodesLegally.Statement .synrcv := by
  rw [Laws.EncodesLegally.Statement, fieldsOf_encode]
  decide

theorem Laws.EncodesLegally.segment : Laws.EncodesLegally.Statement .segment := by
  rw [Laws.EncodesLegally.Statement, fieldsOf_encode]
  decide

theorem Laws.EncodesLegally.release : Laws.EncodesLegally.Statement .release := by
  rw [Laws.EncodesLegally.Statement, fieldsOf_encode]
  decide

theorem Laws.EncodesLegally.close : Laws.EncodesLegally.Statement .close := by
  rw [Laws.EncodesLegally.Statement, fieldsOf_encode]
  decide

end Sys2Proof
end

