-- ==== Sys2Proof/Laws/Stages.lean ====
section
/-! SUPPORT. What the parts of SEGMENT and CLOSE leave unchanged: each writes the TCB group and at most an emission
(42_segment.md R260, 43_emit.md R323), so every other field is as before. -/

namespace Sys2Proof.Machine

/-! Sending FIN. -/

@[simp] theorem sendFin_cmd (s : State) :
    (sendFin s).cmd = s.cmd := by simp [sendFin]

@[simp] theorem sendFin_status (s : State) :
    (sendFin s).status = s.status := by simp [sendFin]

@[simp] theorem sendFin_sticky (s : State) :
    (sendFin s).sticky = s.sticky := by simp [sendFin]

@[simp] theorem sendFin_res (s : State) :
    (sendFin s).res = s.res := by simp [sendFin]

@[simp] theorem sendFin_opa (s : State) :
    (sendFin s).opa = s.opa := by simp [sendFin]

@[simp] theorem sendFin_opb (s : State) :
    (sendFin s).opb = s.opb := by simp [sendFin]

@[simp] theorem sendFin_opc (s : State) :
    (sendFin s).opc = s.opc := by simp [sendFin]

@[simp] theorem sendFin_rxlen (s : State) :
    (sendFin s).rxlen = s.rxlen := by simp [sendFin]

@[simp] theorem sendFin_initWnd (s : State) :
    (sendFin s).initWnd = s.initWnd := by simp [sendFin]

@[simp] theorem sendFin_autoclose (s : State) :
    (sendFin s).autoclose = s.autoclose := by simp [sendFin]

@[simp] theorem sendFin_slen (s : State) :
    (sendFin s).slen = s.slen := by simp [sendFin]

@[simp] theorem sendFin_wend (s : State) :
    (sendFin s).wend = s.wend := by simp [sendFin]

@[simp] theorem sendFin_vValid (s : State) :
    (sendFin s).vValid = s.vValid := by simp [sendFin]

@[simp] theorem sendFin_view (s : State) :
    (sendFin s).view = s.view := by simp [sendFin]

@[simp] theorem sendFin_resetCount (s : State) :
    (sendFin s).resetCount = s.resetCount := by simp [sendFin]

@[simp] theorem sendFin_pending (s : State) :
    (sendFin s).pending = s.pending := by simp [sendFin]

@[simp] theorem sendFin_returned (s : State) :
    (sendFin s).returned = s.returned := by simp [sendFin]

/-! Stage S4. -/

@[simp] theorem stageEstablish_cmd (ackok : Bool) (s : State) :
    (stageEstablish ackok s).cmd = s.cmd := by
  unfold stageEstablish
  split <;> simp

@[simp] theorem stageEstablish_status (ackok : Bool) (s : State) :
    (stageEstablish ackok s).status = s.status := by
  unfold stageEstablish
  split <;> simp

@[simp] theorem stageEstablish_sticky (ackok : Bool) (s : State) :
    (stageEstablish ackok s).sticky = s.sticky := by
  unfold stageEstablish
  split <;> simp

@[simp] theorem stageEstablish_res (ackok : Bool) (s : State) :
    (stageEstablish ackok s).res = s.res := by
  unfold stageEstablish
  split <;> simp

@[simp] theorem stageEstablish_opa (ackok : Bool) (s : State) :
    (stageEstablish ackok s).opa = s.opa := by
  unfold stageEstablish
  split <;> simp

@[simp] theorem stageEstablish_opb (ackok : Bool) (s : State) :
    (stageEstablish ackok s).opb = s.opb := by
  unfold stageEstablish
  split <;> simp

@[simp] theorem stageEstablish_opc (ackok : Bool) (s : State) :
    (stageEstablish ackok s).opc = s.opc := by
  unfold stageEstablish
  split <;> simp

@[simp] theorem stageEstablish_rxlen (ackok : Bool) (s : State) :
    (stageEstablish ackok s).rxlen = s.rxlen := by
  unfold stageEstablish
  split <;> simp

@[simp] theorem stageEstablish_initWnd (ackok : Bool) (s : State) :
    (stageEstablish ackok s).initWnd = s.initWnd := by
  unfold stageEstablish
  split <;> simp

@[simp] theorem stageEstablish_autoclose (ackok : Bool) (s : State) :
    (stageEstablish ackok s).autoclose = s.autoclose := by
  unfold stageEstablish
  split <;> simp

@[simp] theorem stageEstablish_slen (ackok : Bool) (s : State) :
    (stageEstablish ackok s).slen = s.slen := by
  unfold stageEstablish
  split <;> simp

@[simp] theorem stageEstablish_wend (ackok : Bool) (s : State) :
    (stageEstablish ackok s).wend = s.wend := by
  unfold stageEstablish
  split <;> simp

@[simp] theorem stageEstablish_vValid (ackok : Bool) (s : State) :
    (stageEstablish ackok s).vValid = s.vValid := by
  unfold stageEstablish
  split <;> simp

@[simp] theorem stageEstablish_view (ackok : Bool) (s : State) :
    (stageEstablish ackok s).view = s.view := by
  unfold stageEstablish
  split <;> simp

@[simp] theorem stageEstablish_resetCount (ackok : Bool) (s : State) :
    (stageEstablish ackok s).resetCount = s.resetCount := by
  unfold stageEstablish
  split <;> simp

@[simp] theorem stageEstablish_pending (ackok : Bool) (s : State) :
    (stageEstablish ackok s).pending = s.pending := by
  unfold stageEstablish
  split <;> simp

@[simp] theorem stageEstablish_returned (ackok : Bool) (s : State) :
    (stageEstablish ackok s).returned = s.returned := by
  unfold stageEstablish
  split <;> simp

@[simp] theorem stageEstablish_txlen (ackok : Bool) (s : State) :
    (stageEstablish ackok s).txlen = s.txlen := by
  unfold stageEstablish
  split <;> simp

@[simp] theorem stageEstablish_txvalid (ackok : Bool) (s : State) :
    (stageEstablish ackok s).txvalid = s.txvalid := by
  unfold stageEstablish
  split <;> simp

@[simp] theorem stageEstablish_buf (ackok : Bool) (s : State) :
    (stageEstablish ackok s).buf = s.buf := by
  unfold stageEstablish
  split <;> simp

/-! Stage S5. -/

@[simp] theorem stageAck_cmd (ackok : Bool) (s : State) :
    (stageAck ackok s).cmd = s.cmd := by
  unfold stageAck
  dsimp only
  repeat' split
  all_goals simp

@[simp] theorem stageAck_status (ackok : Bool) (s : State) :
    (stageAck ackok s).status = s.status := by
  unfold stageAck
  dsimp only
  repeat' split
  all_goals simp

@[simp] theorem stageAck_sticky (ackok : Bool) (s : State) :
    (stageAck ackok s).sticky = s.sticky := by
  unfold stageAck
  dsimp only
  repeat' split
  all_goals simp

@[simp] theorem stageAck_res (ackok : Bool) (s : State) :
    (stageAck ackok s).res = s.res := by
  unfold stageAck
  dsimp only
  repeat' split
  all_goals simp

@[simp] theorem stageAck_opa (ackok : Bool) (s : State) :
    (stageAck ackok s).opa = s.opa := by
  unfold stageAck
  dsimp only
  repeat' split
  all_goals simp

@[simp] theorem stageAck_opb (ackok : Bool) (s : State) :
    (stageAck ackok s).opb = s.opb := by
  unfold stageAck
  dsimp only
  repeat' split
  all_goals simp

@[simp] theorem stageAck_opc (ackok : Bool) (s : State) :
    (stageAck ackok s).opc = s.opc := by
  unfold stageAck
  dsimp only
  repeat' split
  all_goals simp

@[simp] theorem stageAck_rxlen (ackok : Bool) (s : State) :
    (stageAck ackok s).rxlen = s.rxlen := by
  unfold stageAck
  dsimp only
  repeat' split
  all_goals simp

@[simp] theorem stageAck_initWnd (ackok : Bool) (s : State) :
    (stageAck ackok s).initWnd = s.initWnd := by
  unfold stageAck
  dsimp only
  repeat' split
  all_goals simp

@[simp] theorem stageAck_autoclose (ackok : Bool) (s : State) :
    (stageAck ackok s).autoclose = s.autoclose := by
  unfold stageAck
  dsimp only
  repeat' split
  all_goals simp

@[simp] theorem stageAck_slen (ackok : Bool) (s : State) :
    (stageAck ackok s).slen = s.slen := by
  unfold stageAck
  dsimp only
  repeat' split
  all_goals simp

@[simp] theorem stageAck_wend (ackok : Bool) (s : State) :
    (stageAck ackok s).wend = s.wend := by
  unfold stageAck
  dsimp only
  repeat' split
  all_goals simp

@[simp] theorem stageAck_vValid (ackok : Bool) (s : State) :
    (stageAck ackok s).vValid = s.vValid := by
  unfold stageAck
  dsimp only
  repeat' split
  all_goals simp

@[simp] theorem stageAck_view (ackok : Bool) (s : State) :
    (stageAck ackok s).view = s.view := by
  unfold stageAck
  dsimp only
  repeat' split
  all_goals simp

@[simp] theorem stageAck_resetCount (ackok : Bool) (s : State) :
    (stageAck ackok s).resetCount = s.resetCount := by
  unfold stageAck
  dsimp only
  repeat' split
  all_goals simp

@[simp] theorem stageAck_pending (ackok : Bool) (s : State) :
    (stageAck ackok s).pending = s.pending := by
  unfold stageAck
  dsimp only
  repeat' split
  all_goals simp

@[simp] theorem stageAck_returned (ackok : Bool) (s : State) :
    (stageAck ackok s).returned = s.returned := by
  unfold stageAck
  dsimp only
  repeat' split
  all_goals simp

/-! Stage S6. -/

@[simp] theorem stageFinAcked_cmd (s : State) :
    (stageFinAcked s).cmd = s.cmd := by
  unfold stageFinAcked
  split <;> simp

@[simp] theorem stageFinAcked_status (s : State) :
    (stageFinAcked s).status = s.status := by
  unfold stageFinAcked
  split <;> simp

@[simp] theorem stageFinAcked_sticky (s : State) :
    (stageFinAcked s).sticky = s.sticky := by
  unfold stageFinAcked
  split <;> simp

@[simp] theorem stageFinAcked_res (s : State) :
    (stageFinAcked s).res = s.res := by
  unfold stageFinAcked
  split <;> simp

@[simp] theorem stageFinAcked_opa (s : State) :
    (stageFinAcked s).opa = s.opa := by
  unfold stageFinAcked
  split <;> simp

@[simp] theorem stageFinAcked_opb (s : State) :
    (stageFinAcked s).opb = s.opb := by
  unfold stageFinAcked
  split <;> simp

@[simp] theorem stageFinAcked_opc (s : State) :
    (stageFinAcked s).opc = s.opc := by
  unfold stageFinAcked
  split <;> simp

@[simp] theorem stageFinAcked_rxlen (s : State) :
    (stageFinAcked s).rxlen = s.rxlen := by
  unfold stageFinAcked
  split <;> simp

@[simp] theorem stageFinAcked_initWnd (s : State) :
    (stageFinAcked s).initWnd = s.initWnd := by
  unfold stageFinAcked
  split <;> simp

@[simp] theorem stageFinAcked_autoclose (s : State) :
    (stageFinAcked s).autoclose = s.autoclose := by
  unfold stageFinAcked
  split <;> simp

@[simp] theorem stageFinAcked_slen (s : State) :
    (stageFinAcked s).slen = s.slen := by
  unfold stageFinAcked
  split <;> simp

@[simp] theorem stageFinAcked_wend (s : State) :
    (stageFinAcked s).wend = s.wend := by
  unfold stageFinAcked
  split <;> simp

@[simp] theorem stageFinAcked_vValid (s : State) :
    (stageFinAcked s).vValid = s.vValid := by
  unfold stageFinAcked
  split <;> simp

@[simp] theorem stageFinAcked_view (s : State) :
    (stageFinAcked s).view = s.view := by
  unfold stageFinAcked
  split <;> simp

@[simp] theorem stageFinAcked_resetCount (s : State) :
    (stageFinAcked s).resetCount = s.resetCount := by
  unfold stageFinAcked
  split <;> simp

@[simp] theorem stageFinAcked_pending (s : State) :
    (stageFinAcked s).pending = s.pending := by
  unfold stageFinAcked
  split <;> simp

@[simp] theorem stageFinAcked_returned (s : State) :
    (stageFinAcked s).returned = s.returned := by
  unfold stageFinAcked
  split <;> simp

@[simp] theorem stageFinAcked_txlen (s : State) :
    (stageFinAcked s).txlen = s.txlen := by
  unfold stageFinAcked
  split <;> simp

@[simp] theorem stageFinAcked_txvalid (s : State) :
    (stageFinAcked s).txvalid = s.txvalid := by
  unfold stageFinAcked
  split <;> simp

@[simp] theorem stageFinAcked_buf (s : State) :
    (stageFinAcked s).buf = s.buf := by
  unfold stageFinAcked
  split <;> simp

end Sys2Proof.Machine
end

