-- ==== Sys2Proof/Tests/Slice0.lean ====
section
/-! SUPPORT. Tests of one step each, their expected values taken from the spec (the vectors of
95_test_vectors.md, the example of 43_emit.md R324 and the encodings of 30_encoding.md R144), and a witness for
the hypotheses of every statement that has any. -/

namespace Sys2Proof.Tests

open Sys2Proof Sys2Proof.Machine

/-! Well-formedness: one ill-formed word's fields for each check (30_encoding.md R143), and the decoder's name
for it. -/

theorem test_reserved_bits_refused :
    CmdFields.wellFormed ⟨0x01, false, false, 1⟩ = false ∧
      decode 0b00000000000000000000010000000001 = .error .reservedBits := by decide

theorem test_reserved_opcodes_refused :
    CmdFields.wellFormed ⟨0x00, false, false, 0⟩ = false ∧
      CmdFields.wellFormed ⟨0x08, false, false, 0⟩ = false ∧
      decode 0b00000000000000000000000000000000 = .error .reservedOpcode ∧
      decode 0b00000000000000000000000000001000 = .error .reservedOpcode ∧
      decode 0b00000000000000000000000011111111 = .error .reservedOpcode := by decide

theorem test_flag_bits_refused :
    CmdFields.wellFormed ⟨0x01, true, false, 0⟩ = false ∧
      CmdFields.wellFormed ⟨0x06, false, true, 0⟩ = false ∧
      decode 0b00000000000000000000000100000001 = .error .flagBitsOutsideAcceptable ∧
      decode 0b00000000000000000000001000000110 = .error .flagBitsOutsideAcceptable := by decide

theorem test_legal_fields_pass :
    CmdFields.wellFormed ⟨0x02, true, true, 0⟩ = true ∧
      CmdFields.wellFormed ⟨0x07, false, false, 0⟩ = true := by decide

/-! Decoding: every constructor's word, written out from R144; the illegal words of 95_test_vectors.md I1 to I22. -/

theorem test_decode_between : decode 0b00000000000000000000000000000001 = .ok .between := by decide
theorem test_decode_acceptable :
    decode 0b00000000000000000000000000000010 = .ok (.acceptable false false) := by decide
theorem test_decode_acceptable_syn :
    decode 0b00000000000000000000000100000010 = .ok (.acceptable true false) := by decide
theorem test_decode_acceptable_fin :
    decode 0b00000000000000000000001000000010 = .ok (.acceptable false true) := by decide
theorem test_decode_parse : decode 0b00000000000000000000000000000011 = .ok .parse := by decide
theorem test_decode_synrcv : decode 0b00000000000000000000000000000100 = .ok .synrcv := by decide
theorem test_decode_segment : decode 0b00000000000000000000000000000101 = .ok .segment := by decide
theorem test_decode_release : decode 0b00000000000000000000000000000110 = .ok .release := by decide
theorem test_decode_close : decode 0b00000000000000000000000000000111 = .ok .close := by decide

theorem test_illegal_words_refused :
    ([0x00000000, 0x00000008, 0x000000FF, 0x00000100, 0x00000101, 0x00000105, 0x00000106, 0x00000402,
        0x01000002, 0x80000001, 0xFFFFFFFF, 0x00010001] : List Word).all
      (fun w => (decode w).toOption.isNone) = true := by decide

theorem test_table_word_longer_than_a_command_refused :
    decodeTableWord 32 5 = some .segment ∧ decodeTableWord 40 0x100000005 = none := by decide

/-- R150: the pseudo-instructions' host accesses. -/
theorem test_pseudo_instructions :
    opsAccesses 7 8 9 = [.writeReg 0x04 7, .writeReg 0x05 8, .writeReg 0x06 9] ∧
      loadFrameAccesses [0xAA, 0xBB] = [.writeBuf 0 0xAA, .writeBuf 1 0xBB, .writeReg 0x07 2] ∧
      Instr.close.access = .writeReg 0x00 7 := by decide

/-! Small states to test on. -/

/-- What holds of the next state an outcome answers; false if it answers none. -/
def answers (o : Host.Outcome State Fault Refusal) (p : State → Bool) : Bool :=
  match o with
  | .next t => p t
  | _ => false

/-- The next state an outcome answers, or a state already there. -/
def nextOr (s : State) : Host.Outcome State Fault Refusal → State
  | .next t => t
  | _ => s

/-- A state right after reset, but for the bytes in RXBUF and RXLEN. -/
def loaded (len : Half) (bs : List Byte) : State :=
  { State.reset with rxlen := len, buf := Memory.setBytes [] 0 bs }

/-- The frame F1 of 95_test_vectors.md: a SYN with sequence number 500 and window 2000. -/
def f1 : List Byte :=
  [ 0x00, 0x00, 0x08, 0x00, 0x45, 0x00, 0x00, 0x28, 0x00, 0x00, 0x00, 0x00,
    0x40, 0x06, 0x66, 0xCE, 0x0A, 0x00, 0x00, 0x02, 0x0A, 0x00, 0x00, 0x01,
    0x9C, 0x40, 0x00, 0x50, 0x00, 0x00, 0x01, 0xF4, 0x00, 0x00, 0x00, 0x00,
    0x50, 0x02, 0x07, 0xD0, 0xF5, 0x8B, 0x00, 0x00 ]

/-- The frame OPT of 95_test_vectors.md, with options, two data bytes and padding. -/
def opt : List Byte :=
  [ 0x00, 0x00, 0x08, 0x00, 0x46, 0x00, 0x00, 0x32, 0x00, 0x00, 0x00, 0x00,
    0x40, 0x06, 0x63, 0xC3, 0x0A, 0x00, 0x00, 0x02, 0x0A, 0x00, 0x00, 0x01,
    0x01, 0x01, 0x01, 0x00, 0x00, 0x01, 0x00, 0x02, 0x00, 0x00, 0x00, 0x64,
    0x00, 0x00, 0x00, 0xC8, 0x60, 0x18, 0x01, 0x2C, 0x70, 0x8F, 0x00, 0x00,
    0x02, 0x04, 0x05, 0xB4, 0x11, 0x22, 0xEE, 0xEE ]

/-- F1 with another sequence number, acknowledgment number and flags. -/
def frameWith (seq ack : Word) (flags : Byte) : List Byte :=
  f1.take 28 ++ wordBytes seq ++ wordBytes ack ++ [0x50, flags, 0x07, 0xD0, 0, 0, 0, 0]

/-- The TCB of the SEGMENT vectors, in a state with given SND_UNA and SND_NXT. -/
def tcbIn (st : TcbState) (una nxt : Word) : Tcb where
  state := st
  sndUna := una
  sndNxt := nxt
  sndWnd := 10
  sndUp := false
  sndWl1 := 0
  sndWl2 := 0
  sndIss := 1000
  rcvNxt := 5000
  rcvWnd := 100
  rcvUp := false
  rcvIrs := 4999
  tplLaddr := 0x0A000001
  tplRaddr := 0x0A000002
  tplPorts := 0x00509C40
  tplFlags := 0x10

/-- A start state of the SEGMENT vectors, with the frame loaded. -/
def facing (t : Tcb) (autoclose : Bool) (seq ack : Word) (flags : Byte) : State :=
  { loaded 44 (frameWith seq ack flags) with tcb := t, autoclose := autoclose }

/-- The view of a frame of the SEGMENT vectors. -/
def viewWith (seq ack : Word) (flags : Byte) : View :=
  ⟨0x0A000002, 0x0A000001, 6, 20, 0x9C400050, seq, ack, 2000, flags, 0, 44⟩

def synReceived : Tcb := tcbIn .synReceived 1000 1001
def established : Tcb := tcbIn .established 1001 1001
def finWait1 : Tcb := tcbIn .finWait1 1001 1002
def finWait2 : Tcb := tcbIn .finWait2 1002 1002
def timeWait : Tcb := tcbIn .timeWait 1002 1002

/-! The commands, on vectors of 95_test_vectors.md. -/

/-- Section 2.1: an arc over 2^32, and one that excludes its end. -/
theorem test_between_command :
    answers (exec .between { State.reset with opa := 0xFFFFFFFF, opb := 0, opc := 1 })
        (fun t => t.res && t.status == .ok) = true ∧
      answers (exec .between { State.reset with opa := 0xFFFFFFF0, opb := 0x10, opc := 0x10, res := true })
        (fun t => !t.res && !t.txvalid) = true := by decide

/-- A16, A26 and A30. -/
theorem test_acceptable_command :
    answers (exec (.acceptable false false) { State.reset with opa := 990, opb := 1000, opc := 0x001E000A })
        (fun t => !t.res && t.slen == 30 && t.wend == 0x3F2) = true ∧
      answers (exec (.acceptable true true) { State.reset with opa := 999, opb := 1000, opc := 100 })
        (fun t => t.res && t.slen == 2) = true ∧
      answers (exec (.acceptable true true) { State.reset with opa := 1000, opb := 1000, opc := 0xFFFFFFFF })
        (fun t => t.res && t.slen == 65537 && t.wend == 0x103E7) = true := by decide

/-- OPT: the view registers of a frame with options and padding. -/
theorem test_parse_options :
    answers (exec .parse (loaded 56 opt))
      (fun t => t.vValid && t.status == .ok &&
        t.view == ⟨0x0A000002, 0x0A000001, 6, 26, 0x00010002, 100, 200, 300, 0x18, 2, 52⟩) = true := by
  decide

/-- Q2, Q3, Q4, Q5, Q12 and Q19: a failed check's status. -/
theorem test_parse_failures :
    answers (exec .parse (loaded 3 f1)) (fun t => t.status == .malformed && t.sticky == 0x004) = true ∧
      answers (exec .parse (loaded 23 f1)) (fun t => t.status == .malformed) = true ∧
      answers (exec .parse (loaded 30 f1)) (fun t => t.status == .malformed) = true ∧
      answers (exec .parse (loaded 1505 f1)) (fun t => t.status == .malformed) = true ∧
      answers (exec .parse (loaded 44 (f1.set 36 0x60))) (fun t => t.status == .malformed) = true ∧
      answers (exec .parse (loaded 44 ((f1.set 2 0x86).set 3 0xDD)))
        (fun t => t.status == .ignored && t.sticky == 0x002 && !t.vValid) = true := by decide

/-- S1, with ISS 10000: the TCB that an inbound SYN creates. -/
theorem test_synrcv_creates :
    answers (exec .synrcv { loaded 44 f1 with opa := 10000, initWnd := 10 })
      (fun t => t.status == .ok && t.txvalid && t.txlen == 40 &&
        t.tcb == ⟨.synReceived, 10000, 10001, 10, false, 0, 0, 10000, 501, 2000, false, 500,
          0x0A000001, 0x0A000002, 0x00509C40, 0x10⟩) = true := by decide

/-- S8 and S10. -/
theorem test_synrcv_not_syn_and_busy :
    answers (exec .synrcv (loaded 44 (f1.set 37 0x10)))
        (fun t => t.status == .notSyn && t.tcb == Tcb.cleared && t.sticky == 0x100) = true ∧
      answers (exec .synrcv { loaded 44 f1 with tcb := synReceived })
        (fun t => t.status == .busy && t.tcb == synReceived && t.sticky == 0x200) = true := by decide

/-- G2, G8, G18 and G24: the states SEGMENT moves through. -/
theorem test_segment_transitions :
    answers (exec .segment (facing synReceived true 5000 1001 0x10))

        (fun t => t.status == .ok && t.txvalid && t.tcb == { tcbIn .finWait1 1001 1002 with rcvNxt := 5000 }) = true ∧
      answers (exec .segment (facing synReceived true 5000 1001 0x11))
        (fun t => t.status == .protocolViolation && t.txvalid &&
          t.tcb == { tcbIn .finWait1 1001 1002 with rcvNxt := 5001 }) = true ∧
      answers (exec .segment (facing finWait1 false 5000 1002 0x11))
        (fun t => t.status == .ok && t.txvalid && t.tcb == { timeWait with rcvNxt := 5001 }) = true ∧
      answers (exec .segment (facing timeWait false 5000 1002 0x11))
        (fun t => t.status == .protocolViolation && !t.txvalid &&
          t.tcb == { timeWait with rcvNxt := 5001 }) = true := by decide

/-- G25, G14 and G29: an unacceptable segment, a SYN that counts one, and Closed. -/
theorem test_segment_verdicts :
    answers (exec .segment (facing established false 4000 1001 0x10))
        (fun t => t.status == .unacceptable && !t.res && t.wend == 5100 && t.txvalid &&
          t.tcb == established) = true ∧
      answers (exec .segment (facing established false 5000 1001 0x12))
        (fun t => t.status == .ok && t.slen == 1 && t.tcb == { established with rcvNxt := 5001 }) = true ∧
      answers (exec .segment (facing Tcb.cleared false 5000 1001 0x10))
        (fun t => t.status == .closedIgnored && t.vValid && !t.res && t.slen == 0) = true := by decide

/-- K9. -/
theorem test_release :
    answers (exec .release { State.reset with tcb := established, sticky := 0x08, res := true, txvalid := true })

        (fun t => t.tcb == Tcb.cleared && t.sticky == 0x08 && t.res && t.status == .ok && !t.txvalid) = true := by
  decide

/-- K3 and K5. -/
theorem test_close :
    answers (exec .close { State.reset with tcb := established })
        (fun t => t.status == .ok && t.txvalid && t.tcb == tcbIn .finWait1 1001 1002) = true ∧
      answers (exec .close { State.reset with tcb := finWait2 })
        (fun t => t.status == .protocolViolation && t.sticky == 0x010 && t.tcb == finWait2) = true := by
  decide

/-- 43_emit.md R324: the SYN+ACK of program P2, with P_TTL 64. -/
theorem test_datagram_syn_ack :
    datagram 40 64 { openedTcb 10000 10 (viewWith 500 0 0x02) with state := .closed } =
      [ 0x45, 0x00, 0x00, 0x28, 0x00, 0x00, 0x00, 0x00, 0x40, 0x06,
        0x66, 0xCE, 0x0A, 0x00, 0x00, 0x01, 0x0A, 0x00, 0x00, 0x02,
        0x00, 0x50, 0x9C, 0x40, 0x00, 0x00, 0x27, 0x10, 0x00, 0x00,
        0x01, 0xF5, 0x50, 0x12, 0x00, 0x0A, 0xD6, 0x30, 0x00, 0x00 ] := by
  decide

/-- E5: a datagram whose checksums carry round. -/
theorem test_datagram_carry :
    datagram 40 64 ⟨.established, 0, 0x80000000, 32768, false, 0, 0, 0, 0x7FFFFFFF, 0, false, 0,
        0xFFFFFFFF, 0, 0xFFFF0000, 0x10⟩ =
      [ 0x45, 0x00, 0x00, 0x28, 0x00, 0x00, 0x00, 0x00, 0x40, 0x06,
        0x7A, 0xD1, 0xFF, 0xFF, 0xFF, 0xFF, 0x00, 0x00, 0x00, 0x00,
        0xFF, 0xFF, 0x00, 0x00, 0x80, 0x00, 0x00, 0x00, 0x7F, 0xFF,
        0xFF, 0xFF, 0x50, 0x10, 0x80, 0x00, 0x2F, 0xD5, 0x00, 0x00 ] := by
  decide

/-- R316: the odd last byte of a checksum is padded with a zero low byte. -/
theorem test_csum_odd : csum [0x01, 0x02, 0x03] = 0xFBFD := by decide

/-! Host accesses. -/

/-- R43: CFG holds 17 bits; R40: RXLEN holds 16. -/
theorem test_host_writes :
    answers (perform (.writeReg 0x0A 0xFFFE1234) State.reset)
        (fun t => t.readRegNo 0x0A == 0x1234) = true ∧
      answers (perform (.writeReg 0x07 0xABCD1234) State.reset)
        (fun t => t.readRegNo 0x07 == 0x1234) = true := by decide

/-- R104: the last RXBUF byte is written and read back; the address after it reads 0. -/
theorem test_rxbuf_edge :
    answers (perform (.writeBuf 0x5DF 0xAB) State.reset) (fun t => t.readBufAddr 0x5DF == 0xAB) = true ∧
      answers (perform (.writeBuf 0x5E0 0xAB) State.reset)
        (fun t => t.buf == []) = true := by decide

/-- I11, through `step`: the word the host writes next is the command that runs. -/
theorem test_step_runs_fetch_word :
    answers (step (State.reset.withFetchWord 32 7))
      (fun t => t.cmd == 7 && t.status == .closedIgnored && t.sticky == 0x080) = true := by decide

/-- I1, through `step`: an illegal word. -/
theorem test_step_illegal_word :
    answers (step (State.reset.withFetchWord 32 0))
      (fun t => t.status == .illegalCmd && t.sticky == 0x400) = true := by decide

/-! Witnesses: a state and operands that meet the hypotheses of each statement that has any, named after the
statement. -/

theorem witness_AcceptableCarriesSynAndFin :
    decode 0x302 = .ok (.acceptable true true) ∧ decode 0x002 = .ok (.acceptable false false) := by decide

/-- Words at the edges of the three cases of R143, and legal ones at theirs. -/
theorem witness_IllegalWordRaisesIllegalCmd :
    (∀ w ∈ ([0x00000400, 0x80000001, 0x00000101, 0x00000205, 0x00000000, 0x00000008] : List Word),
      w.extractLsb' 10 22 ≠ 0 ∨ (w.extractLsb' 8 2 ≠ 0 ∧ w.extractLsb' 0 8 ≠ 2)
        ∨ ¬(1 ≤ (w.extractLsb' 0 8).toNat ∧ (w.extractLsb' 0 8).toNat ≤ 7)) ∧
    ∀ w ∈ ([0x00000001, 0x00000007, 0x00000302] : List Word),
      ¬(w.extractLsb' 10 22 ≠ 0 ∨ (w.extractLsb' 8 2 ≠ 0 ∧ w.extractLsb' 0 8 ≠ 2)
        ∨ ¬(1 ≤ (w.extractLsb' 0 8).toNat ∧ (w.extractLsb' 0 8).toNat ≤ 7)) := by simp

theorem witness_StepRunsDecodedCommand :
    (State.reset.withFetchWord 32 5).pending = .writeReg 0x00 5 :: [] ∧ decode 5 = .ok .segment :=
  ⟨rfl, by decide⟩

theorem witness_StepTakesEventsInOrder :
    State.reset.pending = [] ∧
      (State.reset.withPending [.reset, .readBuf 0]).pending = .reset :: [.readBuf 0] := ⟨rfl, rfl⟩

theorem witness_ReservedRegistersReadZero :
    ∀ n ∈ ([0x0D, 0x0F, 0x2C, 0x3F] : List RegNo),
      (0x0D ≤ n.toNat ∧ n.toNat ≤ 0x0F) ∨ 0x2C ≤ n.toNat := by decide

theorem witness_ReadOnlyRegistersIgnoreWrites :
    Reg.status ∉ [Reg.cmd, .opa, .opb, .opc, .rxlen, .cfg] ∧
      Reg.vDoff ∉ [Reg.cmd, .opa, .opb, .opc, .rxlen, .cfg] ∧
      perform (.writeReg 0x04 9) State.reset = .next { State.reset with opa := 9 } ∧
      (HostEvent.writeReg 0x04 9 ≠ .reset) ∧ ∀ w, HostEvent.writeReg 0x04 9 ≠ .writeReg 0x00 w :=
  ⟨by decide, by decide, rfl, by decide, fun w h => by injection h with h; exact absurd h (by decide)⟩

/-- The first and last RXBUF byte, the first and the 40th TXBUF byte (every P_MTU has them), and the hole between
the two buffers at both its ends. -/
theorem witness_BufferAccessRights :
    (∀ a ∈ ([0x000, 0x5DF] : List BufAddr), a.toNat < Config.pRxMax) ∧
    (∀ a ∈ ([0x800, 0x827] : List BufAddr), 0x800 ≤ a.toNat ∧ a.toNat < 0x800 + Config.pMtu) ∧
    ∀ a ∈ ([0x5E0, 0x7FF] : List BufAddr),
      Config.pRxMax ≤ a.toNat ∧ ¬(0x800 ≤ a.toNat ∧ a.toNat < 0x800 + Config.pMtu) := by
  simp [Config.pRxMax, Config.pMtu]
  omega

/-- A register read, and a read of the last address before TXBUF, which has no storage. -/
theorem witness_HostReadsAreIdempotent :
    ((∃ n, HostEvent.readReg 0x00 = .readReg n ∧ BusData.word 0 = .word (State.reset.readRegNo n)) ∨
        ∃ a, HostEvent.readReg 0x00 = .readBuf a ∧ BusData.word 0 = .byte (State.reset.readBufAddr a)) ∧
      perform (.readReg 0x00) State.reset = .next (State.reset.withReturned (.word 0)) ∧
      perform (.readReg 0x00) (State.reset.withReturned (.word 0)) =
        .next ((State.reset.withReturned (.word 0)).withReturned (.word 0)) ∧
      ((∃ n, HostEvent.readBuf 0x7FF = .readReg n ∧
          BusData.byte (State.reset.readBufAddr 0x7FF) = .word (State.reset.readRegNo n)) ∨
        ∃ a, HostEvent.readBuf 0x7FF = .readBuf a ∧
          BusData.byte (State.reset.readBufAddr 0x7FF) = .byte (State.reset.readBufAddr a)) ∧
      perform (.readBuf 0x7FF) State.reset =
        .next (State.reset.withReturned (.byte (State.reset.readBufAddr 0x7FF))) :=
  ⟨.inl ⟨_, rfl, rfl⟩, rfl, rfl, .inr ⟨_, rfl, rfl⟩, rfl⟩

theorem witness_ResetBuffersAreDraws :
    perform .reset State.reset = .next { State.reset with resetCount := 1 } := rfl

theorem witness_BetweenRingProperties :
    (1 : Word) < 2 ∧ (2 : Word) < 3 ∧ (0xFFFFFFFD : Word) < 0xFFFFFFFE ∧ (0xFFFFFFFE : Word) < 0xFFFFFFFF := by
  decide

/-- One input for each row of the R232 table, at the edge of its condition. -/
theorem witness_AcceptabilityDecisionTable :
    seqLength 0 false false = 0 ∧ (0 : Half) = 0 ∧ (1 : Half) ≠ 0 ∧ (0xFFFF : Half) ≠ 0 ∧
      seqLength 0 true false ≠ 0 ∧ seqLength 0xFFFF true true ≠ 0 := by decide

/-- The bytes of a list, and a filler after them. -/
def bytesOf (bs : List Byte) (filler : Byte) (i : Nat) : Byte := (bs[i]?).getD filler

theorem witness_FirstFailedCheckGivesStatus :
    firstFailure (frameChecks 44 (bytesOf f1 0)) = none ∧
      firstFailure (frameChecks 3 (bytesOf f1 0)) = some .malformed ∧
      firstFailure (frameChecks 44 (bytesOf (f1.set 13 0x11) 0)) = some .ignored := by decide

theorem witness_ParsedViewFields :
    frameView 44 (bytesOf f1 0) = .ok (viewWith 500 0 0x02) ∧ 44 ≤ 1504 ∧ 1504 ≤ Config.pRxMax := by
  decide

theorem witness_BadLengthIsMalformed :
    (loaded 1505 []).rxlen.toNat > Config.pRxMax ∧ (loaded 0 []).rxlen.toNat < 4 ∧
      (loaded 3 []).rxlen.toNat < 4 := by decide

theorem witness_ParseReadsOnlyTheFrame :
    (∀ i, i < 44 → bytesOf f1 0 i = bytesOf f1 0xFF i) ∧ bytesOf f1 0 44 ≠ bytesOf f1 0xFF 44 := by
  decide

/-- F1, and F1 with another Time To Live, other checksums and other reserved bits. -/
theorem witness_UnexaminedFieldsDoNotMatter :
    let rx := bytesOf f1 0
    let rx' := bytesOf ((((f1.set 12 0x01).set 14 0).set 36 0x5F).set 40 0) 0
    let tcp := 4 + 4 * ((rx 4).toNat % 16)
    tcp = 24 ∧
    (∀ i, i < 44 → i ∈ [2, 3, 4, 6, 7, 13] ∨ (16 ≤ i ∧ i < 24) ∨ (tcp ≤ i ∧ i < tcp + 12)
      ∨ (tcp + 13 ≤ i ∧ i < tcp + 16) → rx i = rx' i) ∧
    (rx (tcp + 12)).toNat / 16 = (rx' (tcp + 12)).toNat / 16 ∧ rx 36 ≠ rx' 36 := by decide

theorem witness_ParseCommandResult : (loaded 44 f1).frame = .ok (viewWith 500 0 0x02) := by decide

theorem witness_ParseFailureEndsTheCommand :
    (loaded 3 f1).frame = .error .malformed ∧ (loaded 44 (f1.set 13 0x11)).frame = .error .ignored := by
  decide

theorem witness_SynrcvCreatesTcb :
    (loaded 44 f1).tcb.state = .closed ∧ (loaded 44 f1).frame = .ok (viewWith 500 0 0x02) ∧
      (viewWith 500 0 0x02).flags.getLsbD 1 = true := by decide

theorem witness_SynrcvBusyAndNotSyn :
    (facing synReceived true 500 0 0x02).frame = .ok (viewWith 500 0 0x02) ∧
      (facing synReceived true 500 0 0x02).tcb.state ≠ .closed ∧
      (facing Tcb.cleared true 500 0 0x10).frame = .ok (viewWith 500 0 0x10) ∧
      (facing Tcb.cleared true 500 0 0x10).tcb.state = .closed ∧
      (viewWith 500 0 0x10).flags.getLsbD 1 = false ∧
      (facing Tcb.cleared true 500 0 0xFF).frame = .ok (viewWith 500 0 0xFF) ∧
      (viewWith 500 0 0xFF).flags.getLsbD 1 = true := by decide

/-- RELEASE's last clause: with every TCB register 0, as after reset. -/
theorem witness_ReleaseClearsTheTcbGroup :
    ∀ n : RegNo, 0x10 ≤ n.toNat → n.toNat ≤ 0x1F → State.reset.readRegNo n = 0 := by
  intro n low high
  have bound : n.toNat < 64 := n.isLt
  have same : n = BitVec.ofNat 6 n.toNat := by simp
  rw [same]
  generalize n.toNat = k at low high
  interval_cases k <;> rfl

/-- The start state of the vectors meets the TCB invariant in every state, Closed among them. -/
theorem witness_tcb_invariant :
    Tcb.cleared.Inv ∧ synReceived.Inv ∧ established.Inv ∧ finWait1.Inv ∧ finWait2.Inv ∧ timeWait.Inv := by
  refine ⟨?_, ?_, ?_, ?_, ?_, ?_⟩ <;> constructor <;>
    simp [Tcb.cleared, synReceived, established, finWait1, finWait2, timeWait, tcbIn, Tcb.sendSpaceOk]

theorem witness_CloseInEstablishedSendsFin :
    established.Inv ∧ established.state = .established := ⟨witness_tcb_invariant.2.2.1, rfl⟩

theorem witness_CloseOutsideEstablishedIsRefused :
    Tcb.cleared.state ≠ .established ∧ timeWait.state ≠ .established := by decide

theorem witness_ClosedIgnoresSegmentAndClose :
    (facing Tcb.cleared true 5000 1001 0x10).tcb.state = .closed ∧
      (facing Tcb.cleared true 5000 1001 0x10).frame = .ok (viewWith 5000 1001 0x10) := by decide

/-- G27: one past the window's end. -/
theorem witness_UnacceptableSegmentIsAcked :
    (facing established false 5100 1001 0x10).tcb.Inv ∧
      (facing established false 5100 1001 0x10).tcb.state ≠ .closed ∧
      (facing established false 5100 1001 0x10).frame = .ok (viewWith 5100 1001 0x10) ∧
      (acc 5100 0 false false 5000 100).ok = false :=
  ⟨witness_tcb_invariant.2.2.1, by decide⟩

/-- An acceptable FIN in each state that has rows in the table. -/
theorem witness_AcceptableSegmentFollowsTable :
    (∀ t ∈ [synReceived, established, finWait1, finWait2, timeWait], t.Inv ∧ t.state ≠ .closed) ∧
      (∀ t ∈ [synReceived, established, finWait1, finWait2, timeWait],
        (facing t true 5000 1002 0x11).frame = .ok (viewWith 5000 1002 0x11)) ∧
      (acc 5000 0 false true 5000 100).ok = true := by
  refine ⟨?_, by decide⟩
  have h := witness_tcb_invariant
  simp only [List.mem_cons, List.not_mem_nil, or_false]
  rintro t (rfl | rfl | rfl | rfl | rfl)
  exacts [⟨h.2.1, by decide⟩, ⟨h.2.2.1, by decide⟩, ⟨h.2.2.2.1, by decide⟩, ⟨h.2.2.2.2.1, by decide⟩,
    ⟨h.2.2.2.2.2, by decide⟩]

/-- `exec` answers a next state for every instruction, so the statements about its next state have one to speak
of: here after reset. -/
theorem witness_exec_answers :
    ∀ i ∈ [Instr.between, .acceptable false true, .parse, .synrcv, .segment, .release, .close],
      answers (exec i State.reset) (fun t => t.tcb == Tcb.cleared) = true := by decide

theorem witness_SegmentKeepsFixedRegisters :
    exec .segment (facing finWait1 true 5000 1002 0x11) =
      .next (nextOr State.reset (exec .segment (facing finWait1 true 5000 1002 0x11))) := rfl

/-- The same segment from a foreign address, with PSH and URG set (R276, R274). -/
theorem witness_SegmentIgnoresFourTupleAndOtherFlags :
    let s := facing established true 5000 1001 0x10
    let other : List Byte := ((frameWith 5000 1001 0x38).set 19 0x09).set 25 0x57
    let v' : View := { viewWith 5000 1001 0x38 with saddr := 0x0A000009, ports := 0x9C570050 }
    s.frame = .ok (viewWith 5000 1001 0x10) ∧
      ({ s with buf := Memory.setBytes [] 0 other, rxlen := 44 } : State).frame = .ok v' ∧
      v'.seq = (viewWith 5000 1001 0x10).seq ∧ v'.ack = (viewWith 5000 1001 0x10).ack ∧
      v'.flags.getLsbD 0 = (viewWith 5000 1001 0x10).flags.getLsbD 0 ∧
      v'.flags.getLsbD 4 = (viewWith 5000 1001 0x10).flags.getLsbD 4 ∧
      v'.dlen.toNat + (v'.flags.getLsbD 1).toNat =
        (viewWith 5000 1001 0x10).dlen.toNat + ((viewWith 5000 1001 0x10).flags.getLsbD 1).toNat ∧
      answers (exec .segment s) (fun t => t.txvalid) = true ∧
      answers (exec .segment { s with buf := Memory.setBytes [] 0 other, rxlen := 44 })
        (fun t => t.txvalid) = true := by decide

theorem witness_TimeWaitEndsByReleaseOrReset :
    (facing timeWait false 5000 1002 0x11).tcb.state = .timeWait ∧
      answers (exec .segment (facing timeWait false 5000 1002 0x11))
        (fun t => t.tcb.state == .timeWait) = true ∧
      answers (perform (.writeReg 0x00 6) (facing timeWait false 5000 1002 0x11))
        (fun t => t.tcb.state == .closed) = true := by decide

/-- A move of each kind: by RELEASE, SYNRCV, CLOSE and SEGMENT, each from a state that meets the invariant. -/
theorem witness_StateMovesAlongTheTable :
    established.Inv ∧ Tcb.cleared.Inv ∧ synReceived.Inv ∧ finWait1.Inv ∧ finWait2.Inv ∧
    answers (perform (.writeReg 0x00 6) (facing established false 0 0 0))
        (fun t => t.tcb.state == .closed) = true ∧
    answers (perform .reset (facing established false 0 0 0)) (fun t => t.tcb.state == .closed) = true ∧
    answers (perform (.writeReg 0x00 4) (facing Tcb.cleared false 500 0 2))
      (fun t => t.tcb.state == .synReceived) = true ∧
    answers (perform (.writeReg 0x00 7) (facing established false 0 0 0))
        (fun t => t.tcb.state == .finWait1) = true ∧
    answers (perform (.writeReg 0x00 5) (facing synReceived false 5000 1001 0x10))
      (fun t => t.tcb.state == .established) = true ∧
    answers (perform (.writeReg 0x00 5) (facing finWait1 false 5000 1002 0x10))
      (fun t => t.tcb.state == .finWait2) = true ∧
    answers (perform (.writeReg 0x00 5) (facing finWait2 false 5000 1002 0x11))
      (fun t => t.tcb.state == .timeWait) = true :=
  ⟨witness_tcb_invariant.2.2.1, witness_tcb_invariant.1, witness_tcb_invariant.2.1,
    witness_tcb_invariant.2.2.2.1, witness_tcb_invariant.2.2.2.2.1, by decide⟩

theorem witness_StickyAccumulatesStatuses :
    perform (.writeReg 0x00 0) State.reset = .next (nextOr State.reset (perform (.writeReg 0x00 0) State.reset)) ∧
      (nextOr State.reset (perform (.writeReg 0x00 0) State.reset)).sticky = 0x400 ∧
      HostEvent.writeReg 0x00 0 ≠ .reset := ⟨rfl, by decide, by decide⟩

theorem witness_StatusCodesOfEachCommand :
    exec .close State.reset = .next (nextOr State.reset (exec .close State.reset)) := rfl

theorem witness_CommandStartForgetsStatus :
    decode 1 = .ok .between ∧ decode 0 = .error .reservedOpcode ∧
      perform (.writeReg 0x00 1) State.reset =
        .next (nextOr State.reset (perform (.writeReg 0x00 1) State.reset)) :=
  ⟨by decide, by decide, rfl⟩

/-- PARSE that fails, RELEASE and BETWEEN, for the clauses of the frame. -/
theorem witness_CommandsWriteOnlyTheirRegisters :
    exec .parse State.reset = .next (nextOr State.reset (exec .parse State.reset)) ∧
      (nextOr State.reset (exec .parse State.reset)).vValid = false ∧
      exec .release State.reset = .next (nextOr State.reset (exec .release State.reset)) ∧
      exec .between State.reset = .next (nextOr State.reset (exec .between State.reset)) :=
  ⟨rfl, by decide, rfl, rfl⟩

/-- A command that emits, and one that does not. -/
theorem witness_CommandsWriteOnlyTxbuf :
    answers (exec .close { State.reset with tcb := established }) (fun t => t.txvalid) = true ∧
      answers (exec .close State.reset) (fun t => !t.txvalid) = true ∧
      ¬(0x800 ≤ 0x7FF ∧ 0x7FF < 0x828) ∧ ¬(0x800 ≤ 0x828 ∧ 0x828 < 0x828) := by decide

theorem witness_InitialSequenceNumbersAreFixed :
    established.state ≠ .closed ∧
      answers (perform (.writeReg 0x00 7) { State.reset with tcb := established })
        (fun t => t.tcb.state == .finWait1) = true := by decide

/-- G12: an accepted segment that moves RCV_NXT. -/
theorem witness_RcvNxtMovesOnlyByAcceptedSegments :
    answers (exec .segment (facing established false 5050 1001 0x10))
      (fun t => t.tcb.rcvNxt == 5050 && t.tcb.rcvNxt != established.rcvNxt) = true := by decide

theorem witness_SendSpaceStaysWithinTwo :
    (State.withPending { State.reset with tcb := established } [.writeReg 0x00 7]).tcb.Inv ∧
      answers (step (State.withPending { State.reset with tcb := established } [.writeReg 0x00 7]))
        (fun t => t.tcb.state == .finWait1) = true :=
  ⟨witness_tcb_invariant.2.2.1, by decide⟩

/-- For the four invariants a step keeps: an established connection with a frame loaded meets them all, and a step
follows. -/
theorem witness_StepKeepsInvariants :
    let s := (facing established true 5000 1001 0x10).withPending [.writeReg 0x00 5]
    s.tcb.Inv ∧ s.ReportInv ∧ s.ViewInv ∧ s.BufferInv ∧ step s = .next (nextOr s (step s)) := by
  refine ⟨witness_tcb_invariant.2.2.1, ?_, ?_, ?_, rfl⟩
  · constructor <;> decide
  · constructor <;> decide
  · constructor
    · exact ⟨by decide, by decide⟩
    · exact .inl rfl
    · intro h
      exact absurd h (by decide)
    · intro h
      exact absurd h (by decide)

end Sys2Proof.Tests
end

section
/-! PROOF. Host accesses: what a write to each register number does, what an access that is no command leaves
unchanged, and the statement that read-only registers ignore writes (10_state.md R74). -/

namespace Sys2Proof.Machine

/-! A host write to a register number. -/

/-- A host write to the number of a register other than CMD starts no command. -/
theorem writeRegNo_number (s : State) (r : Reg) (v : Word) (h : r ≠ .cmd) :
    writeRegNo r.number v s = .next (s.storeReg r v) := by
  have named : Reg.ofNumber r.number = some r := (Reg.ofNumber_eq_some _ r).2 rfl
  simp [writeRegNo, named]

/-- A host write to a reserved register number is ignored (R73). -/
theorem writeRegNo_reserved (s : State) (n : RegNo) (v : Word) (h : Reg.ofNumber n = none) :
    writeRegNo n v s = .next s := by
  simp [writeRegNo, h]

/-- Everything a host write to a number other than CMD's can do. -/
theorem writeRegNo_cases (s : State) (n : RegNo) (v : Word) (h : n ≠ Reg.cmd.number) :
    (∃ r, r ≠ .cmd ∧ n = r.number ∧ writeRegNo n v s = .next (s.storeReg r v)) ∨
    (Reg.ofNumber n = none ∧ writeRegNo n v s = .next s) := by
  cases named : Reg.ofNumber n with
  | none => exact .inr ⟨rfl, writeRegNo_reserved s n v named⟩
  | some r =>
    obtain rfl := (Reg.ofNumber_eq_some n r).1 named
    have notCmd : r ≠ .cmd := fun isCmd => h (congrArg Reg.number isCmd)
    exact .inl ⟨r, notCmd, rfl, writeRegNo_number s r v notCmd⟩

/-- The registers the R72 table marks "R/W", listed. -/
theorem Reg.hostWritable_iff (r : Reg) :
    r.hostWritable = true ↔ r ∈ [Reg.cmd, .opa, .opb, .opc, .rxlen, .cfg] := by
  cases r <;> simp [Reg.hostWritable]

/-- A register the R72 table marks "R" only stores nothing (R74). -/
theorem State.storeReg_readOnly (s : State) (r : Reg) (v : Word) (h : r.hostWritable = false) :
    s.storeReg r v = s := by
  cases r with
  | cmd | opa | opb | opc | rxlen | cfg => cases h
  | _ => rfl

/-! The TCB group and the view registers under host accesses other than commands. -/

@[simp] theorem State.storeReg_tcb (s : State) (r : Reg) (v : Word) : (s.storeReg r v).tcb = s.tcb := by
  cases r <;> rfl

@[simp] theorem State.storeReg_view (s : State) (r : Reg) (v : Word) : (s.storeReg r v).view = s.view := by
  cases r <;> rfl

@[simp] theorem State.storeReg_vValid (s : State) (r : Reg) (v : Word) :
    (s.storeReg r v).vValid = s.vValid := by
  cases r <;> rfl

@[simp] theorem State.writeBufAddr_tcb (s : State) (a : BufAddr) (b : Byte) :
    (s.writeBufAddr a b).tcb = s.tcb := by
  unfold State.writeBufAddr
  split <;> rfl

@[simp] theorem State.writeBufAddr_view (s : State) (a : BufAddr) (b : Byte) :
    (s.writeBufAddr a b).view = s.view := by
  unfold State.writeBufAddr
  split <;> rfl

@[simp] theorem State.writeBufAddr_vValid (s : State) (a : BufAddr) (b : Byte) :
    (s.writeBufAddr a b).vValid = s.vValid := by
  unfold State.writeBufAddr
  split <;> rfl

/-- A host write to a read-only register is ignored. -/
theorem perform_writeReg_readOnly (s : State) (r : Reg) (v : Word) (h : r.hostWritable = false) :
    perform (.writeReg r.number v) s = .next s := by
  have notCmd : r ≠ .cmd := by
    rintro rfl
    cases h
  calc perform (.writeReg r.number v) s
      = .next (s.storeReg r v) := writeRegNo_number s r v notCmd
    _ = .next s := by rw [State.storeReg_readOnly s r v h]

/-- A host write to a number other than CMD's keeps the TCB group and the view registers. -/
theorem writeRegNo_keeps_tcb_and_view (s t : State) (n : RegNo) (v : Word) (h : n ≠ Reg.cmd.number)
    (run : writeRegNo n v s = .next t) : t.tcb = s.tcb ∧ t.view = s.view ∧ t.vValid = s.vValid := by
  obtain ⟨r, -, -, stored⟩ | ⟨-, ignored⟩ := writeRegNo_cases s n v h
  · obtain rfl : s.storeReg r v = t := Host.Outcome.next.inj (stored.symm.trans run)
    simp
  · obtain rfl : s = t := Host.Outcome.next.inj (ignored.symm.trans run)
    simp

/-- Settles O10: by the register for a read-only write, and by the kind of host event for the rest. -/
theorem readOnlyRegistersIgnoreWrites : Obligations.ReadOnlyRegistersIgnoreWrites := by
  unfold Obligations.ReadOnlyRegistersIgnoreWrites
  constructor
  · intro s r v notListed
    have readOnly : r.hostWritable = false := by
      simpa only [← Reg.hostWritable_iff, Bool.not_eq_true] using notListed
    exact perform_writeReg_readOnly s r v readOnly
  · intro s t e run notReset notCommand
    cases e with
    | readReg n =>
      cases run
      simp
    | writeReg n v =>
      have notCmd : n ≠ Reg.cmd.number := by
        rintro rfl
        exact notCommand v rfl
      exact writeRegNo_keeps_tcb_and_view s t n v notCmd run
    | readBuf a =>
      cases run
      simp
    | writeBuf a b =>
      cases run
      simp
    | reset => exact absurd rfl notReset

end Sys2Proof.Machine
end

section
/-! PROOF. Which words the decoder accepts and with which fields, and the statements that ACCEPTABLE alone
carries operands (30_encoding.md R142) and that an illegal word only raises ILLEGAL_CMD (R143). -/

namespace Sys2Proof

/-! The legal fields, and the command they select. -/

/-- The three checks of R143, each by itself. -/
theorem CmdFields.wellFormed_iff (c : CmdFields) :
    c.wellFormed = true ↔
      c.rsvIsZero = true ∧ c.opcIsMapped = true ∧ c.flagsAreAllowed = true := by
  simp [CmdFields.wellFormed, and_assoc]

/-- The command an instruction's own fields select. -/
@[simp] theorem commandOf_fields (i : Instr) : commandOf i.fields = some i := by
  cases i <;> rfl

/-- The fields of every instruction pass the three checks. -/
@[simp] theorem Instr.fields_wellFormed (i : Instr) : i.fields.wellFormed = true := by
  rw [← fieldsOf_encode]
  cases i with
  | between => exact Laws.EncodesLegally.between.2
  | acceptable syn fin => exact (Laws.EncodesLegally.acceptable syn fin).2
  | parse => exact Laws.EncodesLegally.parse.2
  | synrcv => exact Laws.EncodesLegally.synrcv.2
  | segment => exact Laws.EncodesLegally.segment.2
  | release => exact Laws.EncodesLegally.release.2
  | close => exact Laws.EncodesLegally.close.2

/-- Legal fields hold nothing beyond the command they select: its opcode and, for ACCEPTABLE, its operands. -/
theorem CmdFields.eq_fields_of_commandOf (c : CmdFields) (i : Instr) (rsv : c.rsvIsZero = true)
    (flags : c.flagsAreAllowed = true) (command : commandOf c = some i) : c = i.fields := by
  obtain ⟨opc, syn, fin, rest⟩ := c
  have opcode (n : Nat) (v : opc.toNat = n) : opc = BitVec.ofNat 8 n := by simp [← v]
  unfold commandOf at command
  split at command
  case h_8 => cases command
  all_goals
    rename_i v
    cases command
    obtain rfl := opcode _ v
    simp_all [Instr.fields, CmdFields.rsvIsZero, CmdFields.flagsAreAllowed]

/-- Every opcode from 1 to 7 selects a command. -/
theorem CmdFields.exists_commandOf (c : CmdFields) (mapped : c.opcIsMapped = true) :
    ∃ i, commandOf c = some i := by
  obtain ⟨low, high⟩ : 1 ≤ c.opc.toNat ∧ c.opc.toNat ≤ 7 := by
    simpa [CmdFields.opcIsMapped, BitVec.le_def] using mapped
  unfold commandOf
  interval_cases c.opc.toNat <;> exact ⟨_, rfl⟩

/-! The decoder in terms of a word's fields. -/

/-- A word decodes when its reserved field, its opcode and its flag bits all pass. -/
theorem decode_eq_ok_iff (w : Word) (i : Instr) :
    decode w = .ok i ↔
      (fieldsOf w).rsvIsZero = true ∧ commandOf (fieldsOf w) = some i ∧
        (fieldsOf w).flagsAreAllowed = true := by
  unfold decode
  cases (fieldsOf w).rsvIsZero with
  | false => simp
  | true =>
    cases commandOf (fieldsOf w) with
    | none => simp
    | some j => cases (fieldsOf w).flagsAreAllowed <;> simp

/-- A word decodes to a command exactly when its fields are the command's. -/
theorem decode_eq_ok_iff_fields (w : Word) (i : Instr) :
    decode w = .ok i ↔ fieldsOf w = i.fields := by
  rw [decode_eq_ok_iff]
  constructor
  · rintro ⟨rsv, command, flags⟩
    exact (fieldsOf w).eq_fields_of_commandOf i rsv flags command
  · intro h
    obtain ⟨rsv, -, flags⟩ := i.fields.wellFormed_iff.1 i.fields_wellFormed
    simp [h, rsv, flags]

/-- A word that decodes to a command is the command's one word. -/
theorem eq_encode_of_decode (w : Word) (i : Instr) (decoded : decode w = .ok i) : w = encode i :=
  calc w = wordOf (fieldsOf w) := (wordOf_fieldsOf w).symm
    _ = wordOf i.fields := by rw [(decode_eq_ok_iff_fields w i).1 decoded]

/-- Exactly the words that pass the three checks of R143 decode. -/
theorem exists_decode_iff_wellFormed (w : Word) :
    (∃ i, decode w = .ok i) ↔ (fieldsOf w).wellFormed = true := by
  constructor
  · rintro ⟨i, decoded⟩
    simp [(decode_eq_ok_iff_fields w i).1 decoded]
  · intro legal
    obtain ⟨rsv, mapped, flags⟩ := (fieldsOf w).wellFormed_iff.1 legal
    obtain ⟨i, command⟩ := (fieldsOf w).exists_commandOf mapped
    exact ⟨i, (decode_eq_ok_iff w i).2 ⟨rsv, command, flags⟩⟩

/-! The three checks on the bits of a word (R143). -/

/-- CMD[9:8] is zero when both flag bits are. -/
theorem extractLsb'_flagBits_eq_zero_iff (w : Word) :
    w.extractLsb' 8 2 = 0 ↔ w.getLsbD 8 = false ∧ w.getLsbD 9 = false := by
  constructor
  · intro h
    have bit (k : Nat) (small : k < 2) : w.getLsbD (8 + k) = false := by
      simpa [small] using congrArg (·.getLsbD k) h
    exact ⟨bit 0 (by decide), bit 1 (by decide)⟩
  · rintro ⟨synBit, finBit⟩
    ext k small
    interval_cases k <;> simpa

/-- The first check of R143: no bit of the reserved field is set. -/
theorem rsvIsZero_fieldsOf (w : Word) :
    (fieldsOf w).rsvIsZero = true ↔ w.extractLsb' 10 22 = 0 := by
  simp [CmdFields.rsvIsZero, fieldsOf]

/-- The second check of R143: no flag bit is set outside ACCEPTABLE. -/
theorem flagsAreAllowed_fieldsOf (w : Word) :
    (fieldsOf w).flagsAreAllowed = true ↔ w.extractLsb' 8 2 = 0 ∨ w.extractLsb' 0 8 = 2 := by
  rw [extractLsb'_flagBits_eq_zero_iff]
  simp [CmdFields.flagsAreAllowed, fieldsOf]

/-- The third check of R143: the opcode is one of 1 to 7. -/
theorem opcIsMapped_fieldsOf (w : Word) :
    (fieldsOf w).opcIsMapped = true ↔
      1 ≤ (w.extractLsb' 0 8).toNat ∧ (w.extractLsb' 0 8).toNat ≤ 7 := by
  simp [CmdFields.opcIsMapped, fieldsOf, BitVec.le_def]

/-- A word is illegal in one of the three cases of R143, and in no other. -/
theorem not_wellFormed_fieldsOf_iff (w : Word) :
    ¬(fieldsOf w).wellFormed = true ↔
      w.extractLsb' 10 22 ≠ 0 ∨ (w.extractLsb' 8 2 ≠ 0 ∧ w.extractLsb' 0 8 ≠ 2) ∨
        ¬(1 ≤ (w.extractLsb' 0 8).toNat ∧ (w.extractLsb' 0 8).toNat ≤ 7) := by
  rw [CmdFields.wellFormed_iff, rsvIsZero_fieldsOf, opcIsMapped_fieldsOf, flagsAreAllowed_fieldsOf]
  tauto

/-- Settles O3: a word's bits are the fields of the command it decodes to, and these fix the word. -/
theorem acceptableCarriesSynAndFin : Obligations.AcceptableCarriesSynAndFin := by
  unfold Obligations.AcceptableCarriesSynAndFin
  constructor
  · intro w syn fin decoded
    have fields := (decode_eq_ok_iff_fields w _).1 decoded
    exact ⟨congrArg CmdFields.opc fields, (congrArg CmdFields.synBit fields).symm,
      (congrArg CmdFields.finBit fields).symm⟩
  · intro w w' i decoded decoded'
    exact (eq_encode_of_decode w i decoded).trans (eq_encode_of_decode w' i decoded').symm

end Sys2Proof

namespace Sys2Proof.Machine

/-! A host write of an illegal word. -/

/-- A host write to register number 0 is a write to CMD. -/
theorem perform_writeReg_cmd (s : State) (w : Word) :
    perform (.writeReg 0x00 w) s = writeCmd w s := rfl

/-- What the bookkeeping and the raise of an illegal word do to the state (R453). -/
theorem illegalCommand_eq (s : State) :
    illegalCommand s =
      { s with status := .illegalCmd, txvalid := false, sticky := s.sticky ||| 0x400 } := by
  rw [illegalCommand, State.raiseStatus_eq]
  rfl

/-- A host write to CMD of a word that fails a check of R143. -/
theorem perform_writeReg_illegal (s : State) (w : Word)
    (illegal : ¬(fieldsOf w).wellFormed = true) :
    perform (.writeReg 0x00 w) s = .next (illegalCommand (s.withCmd w)) := by
  rw [perform_writeReg_cmd]
  obtain ⟨i, decoded, -⟩ | ⟨-, -, run⟩ := writeCmd_cases w s
  · exact absurd ((exists_decode_iff_wellFormed w).1 ⟨i, decoded⟩) illegal
  · exact run

/-- Settles O4: the three cases of R143 are those of an ill-formed word, and every other word decodes. -/
theorem illegalWordRaisesIllegalCmd : Obligations.IllegalWordRaisesIllegalCmd := by
  unfold Obligations.IllegalWordRaisesIllegalCmd
  intro s w
  split
  case isTrue illegal =>
    rw [perform_writeReg_illegal s w ((not_wellFormed_fieldsOf_iff w).2 illegal), illegalCommand_eq]
    rfl
  case isFalse legal =>
    rw [← not_wellFormed_fieldsOf_iff, not_not] at legal
    exact (exists_decode_iff_wellFormed w).2 legal

end Sys2Proof.Machine
end

section
/-! PROOF. The circular comparison case by case (40_seqmath.md R200), the boundaries its arc excludes, the source's
wraparound examples (R203) and the BETWEEN command (R205). -/

namespace Sys2Proof.Machine

/-! One equation for each case of the source's formula. -/

/-- The start of the arc is excluded. -/
@[simp] theorem between_start (s e : Word) : between s s e = false := by
  simp [between]

/-- A point above the start is reached without a wrap, unless the end comes first. -/
theorem between_of_lt {s x : Word} (e : Word) (h : s < x) :
    between s x e = !(decide (s ≤ e) && decide (e ≤ x)) := by
  have apart : s ≠ x := BitVec.ne_of_lt h
  simp [between, apart, h]

/-- A point below the start is reached by a wrap, when the end lies between the two. -/
theorem between_of_gt {s x : Word} (e : Word) (h : x < s) :
    between s x e = (decide (e < s) && decide (x < e)) := by
  have apart : s ≠ x := (BitVec.ne_of_lt h).symm
  have notAbove : ¬s < x := BitVec.lt_asymm h
  simp [between, apart, notAbove]

/-! The boundaries of the arc. -/

/-- The end of the arc is excluded. -/
@[simp] theorem between_end (s e : Word) : between s e e = false := by
  rcases BitVec.lt_trichotomy s e with above | rfl | below
  · simp [between_of_lt e above, BitVec.le_of_lt above]
  · exact between_start s s
  · simp [between_of_gt e below]

/-- An arc that ends at its start is empty. -/
@[simp] theorem between_emptyArc (s x : Word) : between s x s = false := by
  rcases BitVec.lt_trichotomy s x with above | rfl | below
  · simp [between_of_lt s above, BitVec.le_of_lt above]
  · exact between_start s s
  · simp [between_of_gt s below]

/-- Settles O16: in both examples the point lies below the start, so the end decides. -/
theorem betweenSourceExamples : Obligations.BetweenSourceExamples := by
  unfold Obligations.BetweenSourceExamples
  constructor
  · rw [between_of_gt 0x10 (by decide)]
    decide
  · rw [between_of_gt 0x10 (by decide)]
    decide

/-! The BETWEEN command. -/

/-- The exact state BETWEEN ends in: nothing raises, so the end of the command changes nothing. -/
theorem exec_between (s : State) :
    exec .between s =
      .next { s with status := .ok, txvalid := false, res := between s.opa s.opb s.opc } :=
  calc exec .between s
      = .next (s.startCommand.withRes (between s.opa s.opb s.opc)).endCommand := rfl
    _ = .next (s.startCommand.withRes (between s.opa s.opb s.opc)) := by
      rw [State.endCommand_ok _ (by simp)]

/-- BETWEEN's word (R144). -/
theorem decode_between : decode 0x00000001 = .ok .between := by
  have word : encode .between = 0x00000001 := by decide
  rw [← word]
  exact (decode_eq_ok_iff_fields _ _).2 (fieldsOf_encode .between)

/-- A flag bit outside ACCEPTABLE makes a word illegal (R143): no command has the word 0x101. -/
theorem decode_0x101_ne_ok (i : Instr) : decode 0x00000101 ≠ .ok i := by
  intro decoded
  obtain ⟨-, -, flags⟩ := (decode_eq_ok_iff _ i).1 decoded
  exact absurd ((flagsAreAllowed_fieldsOf _).1 flags) (by decide)

/-- Settles O19: by the exact effect of the command, its word, and the cases and boundaries of the comparison. -/
theorem betweenCommandResult : Obligations.BetweenCommandResult := by
  unfold Obligations.BetweenCommandResult
  have corners (a b : Word) :
      between a a a = false ∧ between a b b = false ∧ between a b a = false :=
    ⟨between_start a a, between_end a b, between_emptyArc a b⟩
  have wraps : between 0xFFFFFFFF 0 1 = true := by
    rw [between_of_gt 1 (by decide)]
    decide
  exact ⟨exec_between, decode_between, decode_0x101_ne_ok, corners, wraps,
    between_emptyArc 0 0xFFFFFFFF, betweenSourceExamples.1⟩

end Sys2Proof.Machine
end

section
/-! PROOF. The acceptability function: the sequence length and window end it reports, one lemma per row of its
decision table, and the statement that these are what `ACC` returns (41_acceptability.md R230 to R232). -/

namespace Sys2Proof.Machine

/-! The sequence length and the window end (R230, R231). -/

/-- A flag counts as the number 1 or 0. -/
theorem flagWord_eq_ite (b : Bool) : flagWord b = if b then 1 else 0 := by
  cases b <;> rfl

/-- A segment occupies its data, and one number more for FIN and one for SYN. -/
theorem seqLength_eq_add_ite (dataLen : Half) (syn fin : Bool) :
    seqLength dataLen syn fin =
      dataLen.setWidth 32 + (if fin then 1 else 0) + (if syn then 1 else 0) := by
  rw [seqLength, flagWord_eq_ite, flagWord_eq_ite]

/-! One lemma for each row of the decision table (R232). -/

section
variable (seqn nxt : Word) {slen : Word} {wnd : Half}

/-- An empty segment against a closed window: it must carry the number expected next. -/
theorem accVerdict_empty_closed (empty : slen = 0) (closed : wnd = 0) :
    accVerdict seqn slen nxt wnd = true ↔ seqn = nxt := by
  rw [accVerdict, if_pos empty, if_pos closed, beq_iff_eq]

/-- An empty segment against an open window: its number must lie in the window. -/
theorem accVerdict_empty_open (empty : slen = 0) (isOpen : wnd ≠ 0) :
    accVerdict seqn slen nxt wnd = between (nxt - 1) seqn (windowEnd nxt wnd) := by
  rw [accVerdict, if_pos empty, if_neg isOpen]

/-- A segment that occupies numbers is never accepted against a closed window. -/
theorem accVerdict_occupied_closed (occupied : slen ≠ 0) (closed : wnd = 0) :
    accVerdict seqn slen nxt wnd = false := by
  rw [accVerdict, if_neg occupied, if_pos closed]

/-- A segment that occupies numbers, against an open window: its first or its last must lie in the window. -/
theorem accVerdict_occupied_open (occupied : slen ≠ 0) (isOpen : wnd ≠ 0) :
    accVerdict seqn slen nxt wnd =
      (between (nxt - 1) seqn (windowEnd nxt wnd) ||
        between (nxt - 1) (seqn + slen - 1) (windowEnd nxt wnd)) := by
  rw [accVerdict, if_neg occupied, if_neg isOpen]

end

/-- What `ACC` returns, with the sequence length spelled out. -/
theorem acc_eq (seqn nxt : Word) (dataLen wnd : Half) (syn fin : Bool) :
    acc seqn dataLen syn fin nxt wnd =
      let slen := dataLen.setWidth 32 + (if fin then 1 else 0) + (if syn then 1 else 0)
      ⟨accVerdict seqn slen nxt wnd, slen, windowEnd nxt wnd⟩ := by
  rw [acc, seqLength_eq_add_ite]

/-- Settles O21: for the sequence length that R230 gives, each row of the table is its own lemma. -/
theorem acceptabilityDecisionTable : Obligations.AcceptabilityDecisionTable := by
  unfold Obligations.AcceptabilityDecisionTable
  intro seqn nxt dataLen wnd syn fin
  rw [acc_eq]
  refine ⟨rfl, rfl, ?emptyClosed, ?emptyOpen, ?occupiedClosed, ?occupiedOpen⟩
  case emptyClosed => exact accVerdict_empty_closed seqn nxt
  case emptyOpen => exact accVerdict_empty_open seqn nxt
  case occupiedClosed => exact accVerdict_occupied_closed seqn nxt
  case occupiedOpen => exact accVerdict_occupied_open seqn nxt

end Sys2Proof.Machine
end

section
/-! PROOF. SEGMENT and CLOSE in Closed (42_segment.md R262), the registers SEGMENT never writes (R278), what TimeWait
takes to leave (R277), and what of a frame SEGMENT depends on (R274, R276). -/

namespace Sys2Proof.Machine

/-! The commands SEGMENT and CLOSE, by the parts of their rules. -/

/-- SEGMENT on a frame that passes every check. -/
theorem exec_segment_ok (s : State) (v : View) (parsed : s.frame = .ok v) :
    exec .segment s = .next (segmentBody ((s.startCommand.withRes false).withView v)).finish :=
  calc exec .segment s
      = .next ((parseFrame (s.startCommand.withRes false)).andThen segmentBody).finish := rfl
    _ = _ := by rw [parseFrame_ok _ v (by simpa using parsed), Flow.andThen_go]

/-- SEGMENT on a frame that fails a check. -/
theorem exec_segment_error (s : State) (c : Status) (failed : s.frame = .error c) :
    exec .segment s = .next ((s.startCommand.withRes false).withoutView.raiseStatus c) :=
  calc exec .segment s
      = .next ((parseFrame (s.startCommand.withRes false)).andThen segmentBody).finish := rfl
    _ = _ := by rw [parseFrame_error _ c (by simpa using failed), Flow.andThen_raise, Flow.finish_raise]

/-- CLOSE is its body between the start and the end of a command. -/
theorem exec_close (s : State) : exec .close s = .next (closeBody s.startCommand).finish := rfl

/-- Stage S1 stops SEGMENT in Closed. -/
theorem segmentBody_closed (s : State) (closed : s.tcb.state = .closed) :
    segmentBody s = .raise .closedIgnored s := by
  simp [segmentBody, closed]

/-- CLOSE has nothing to close in Closed. -/
theorem closeBody_closed (s : State) (closed : s.tcb.state = .closed) :
    closeBody s = .raise .closedIgnored s := by
  simp [closeBody, closed]

/-- Settles O39: both commands reach the raise, SEGMENT with the parsed view and RES 0. -/
theorem closedIgnoresSegmentAndClose : Obligations.ClosedIgnoresSegmentAndClose := by
  unfold Obligations.ClosedIgnoresSegmentAndClose
  intro s v closed
  constructor
  · intro parsed
    rw [exec_segment_ok s v parsed, segmentBody_closed _ (by simpa using closed), Flow.finish_raise,
      State.raiseStatus_eq]
    rfl
  · rw [exec_close, closeBody_closed _ (by simpa using closed), Flow.finish_raise, State.raiseStatus_eq]
    rfl

/-! The state a part of a rule has reached when it goes on or raises. Ending the command changes STATUS and STICKY
alone. -/

/-- The state a flow holds, whichever way it went. -/
def Flow.held : Flow → State
  | .go s => s
  | .raise _ s => s

@[simp] theorem Flow.held_go (s : State) : (Flow.go s).held = s := rfl

@[simp] theorem Flow.held_raise (c : Status) (s : State) : (Flow.raise c s).held = s := rfl

@[simp] theorem State.raiseStatus_view (c : Status) (s : State) : (s.raiseStatus c).view = s.view := by
  rw [State.raiseStatus_eq]

@[simp] theorem State.endCommand_view (s : State) : s.endCommand.view = s.view := by
  unfold State.endCommand
  split <;> rfl

@[simp] theorem Flow.finish_tcb (f : Flow) : f.finish.tcb = f.held.tcb := by
  cases f with
  | go s => exact State.endCommand_tcb s
  | raise c s => exact State.raiseStatus_tcb c s

@[simp] theorem Flow.finish_view (f : Flow) : f.finish.view = f.held.view := by
  cases f with
  | go s => exact State.endCommand_view s
  | raise c s => exact State.raiseStatus_view c s

/-! The registers of the TCB group that SEGMENT never writes. -/

/-- The TCB group with the five registers blanked that SEGMENT may write: what is left is what R278 lists. -/
def State.fixedRegs (s : State) : Tcb :=
  { s.tcb with state := .closed, sndUna := 0, sndNxt := 0, rcvNxt := 0, tplFlags := 0 }

/-- Two states agree on the fixed registers when each register R278 lists is the same. -/
theorem State.fixedRegs_eq_iff (s t : State) :
    t.fixedRegs = s.fixedRegs ↔
      t.tcb.sndWnd = s.tcb.sndWnd ∧ t.tcb.sndWl1 = s.tcb.sndWl1 ∧ t.tcb.sndWl2 = s.tcb.sndWl2 ∧
      t.tcb.sndUp = s.tcb.sndUp ∧ t.tcb.rcvWnd = s.tcb.rcvWnd ∧ t.tcb.rcvUp = s.tcb.rcvUp ∧
      t.tcb.rcvIrs = s.tcb.rcvIrs ∧ t.tcb.sndIss = s.tcb.sndIss ∧
      t.tcb.tplLaddr = s.tcb.tplLaddr ∧ t.tcb.tplRaddr = s.tcb.tplRaddr ∧
      t.tcb.tplPorts = s.tcb.tplPorts := by
  simp only [State.fixedRegs, Tcb.mk.injEq]
  tauto

/-- The fixed registers are a part of the TCB group. -/
theorem State.fixedRegs_congr {s t : State} (same : t.tcb = s.tcb) : t.fixedRegs = s.fixedRegs := by
  rw [State.fixedRegs, same, State.fixedRegs]

@[simp] theorem State.enter_fixedRegs (s : State) (st : TcbState) :
    (s.enter st).fixedRegs = s.fixedRegs := rfl

@[simp] theorem State.recordAcc_fixedRegs (s : State) (a : Acc) :
    (s.recordAcc a).fixedRegs = s.fixedRegs := rfl

@[simp] theorem emit_fixedRegs (s : State) : (emit s).fixedRegs = s.fixedRegs := by
  rw [State.fixedRegs, emit_tcb, Tcb.afterEmission_eq]
  rfl

@[simp] theorem sendFin_fixedRegs (s : State) : (sendFin s).fixedRegs = s.fixedRegs := by
  rw [sendFin_eq, State.enter_fixedRegs, emit_fixedRegs]
  rfl

@[simp] theorem stageAdvance_fixedRegs (s : State) : (stageAdvance s).fixedRegs = s.fixedRegs := rfl

@[simp] theorem stageEstablish_fixedRegs (ackok : Bool) (s : State) :
    (stageEstablish ackok s).fixedRegs = s.fixedRegs := by
  unfold stageEstablish
  split <;> rfl

/-- Stage S5 with its conditions on the state it starts from: an acceptable ACK moves SND_UNA, and then AUTOCLOSE
may send FIN. -/
theorem stageAck_eq (ackok : Bool) (s : State) :
    stageAck ackok s =
      if ackok = true ∧ s.tcb.state.takesAck = true then
        if s.tcb.state = .established ∧ s.autoclose = true then
          sendFin (s.withTcb { s.tcb with sndUna := s.view.ack })
        else s.withTcb { s.tcb with sndUna := s.view.ack }
      else s := rfl

@[simp] theorem stageAck_fixedRegs (ackok : Bool) (s : State) :
    (stageAck ackok s).fixedRegs = s.fixedRegs := by
  have acked : (s.withTcb { s.tcb with sndUna := s.view.ack }).fixedRegs = s.fixedRegs := rfl
  rw [stageAck_eq]
  split_ifs
  · rw [sendFin_fixedRegs, acked]
  · exact acked
  · rfl

@[simp] theorem stageFinAcked_fixedRegs (s : State) : (stageFinAcked s).fixedRegs = s.fixedRegs := by
  unfold stageFinAcked
  split <;> rfl

@[simp] theorem stageFin_fixedRegs (s : State) : (stageFin s).held.fixedRegs = s.fixedRegs := by
  obtain ⟨-, run⟩ | ⟨-, -, run⟩ | ⟨-, -, run⟩ := stageFin_cases s <;> simp [run]

@[simp] theorem segmentCascade_fixedRegs (s : State) :
    (segmentCascade s).held.fixedRegs = s.fixedRegs := by
  simp [segmentCascade]

@[simp] theorem segmentBody_fixedRegs (s : State) : (segmentBody s).held.fixedRegs = s.fixedRegs := by
  obtain ⟨-, run⟩ | ⟨-, -, run⟩ | ⟨-, -, run⟩ := segmentBody_cases s <;> simp [run]

/-- Settles O42: a failed parse keeps the TCB group, and after a parse every stage keeps the fixed registers. -/
theorem segmentKeepsFixedRegisters : Obligations.SegmentKeepsFixedRegisters := by
  unfold Obligations.SegmentKeepsFixedRegisters
  intro s t run
  rw [← State.fixedRegs_eq_iff]
  cases parse : s.frame with
  | ok v =>
    obtain rfl := Host.Outcome.next.inj ((exec_segment_ok s v parse).symm.trans run)
    exact (State.fixedRegs_congr (Flow.finish_tcb _)).trans (segmentBody_fixedRegs _)
  | error c =>
    obtain rfl := Host.Outcome.next.inj ((exec_segment_error s c parse).symm.trans run)
    exact State.fixedRegs_congr (State.raiseStatus_tcb c _)

/-! TimeWait: no stage after S3 and no command but RELEASE writes STATE there. -/

/-- In TimeWait the stages S4 to S6 do nothing: S4 needs SynReceived, S6 FinWait1, and S5 takes no ACK. -/
theorem segmentCascade_timeWait (s : State) (waits : s.tcb.state = .timeWait) :
    segmentCascade s = stageFin s := by
  have establish (ackok : Bool) : stageEstablish ackok s = s := by simp [stageEstablish, waits]
  have ack (ackok : Bool) : stageAck ackok s = s := by simp [stageAck, waits, TcbState.takesAck]
  have finAcked : stageFinAcked s = s := by simp [stageFinAcked, waits]
  rw [segmentCascade, establish, ack, finAcked]

/-- Stage S7 leaves the TCB group alone outside FinWait2. -/
theorem stageFin_tcb (s : State) (notTwo : s.tcb.state ≠ .finWait2) : (stageFin s).held.tcb = s.tcb := by
  obtain ⟨-, run⟩ | ⟨-, two, -⟩ | ⟨-, -, run⟩ := stageFin_cases s
  · rw [run, Flow.held_go]
  · exact absurd two notTwo
  · rw [run, Flow.held_raise]

/-- An emission does not write STATE. -/
@[simp] theorem Tcb.afterEmission_state (t : Tcb) : t.afterEmission.state = t.state := by
  rw [Tcb.afterEmission_eq]

/-- SEGMENT after its parse stays in TimeWait. -/
theorem segmentBody_timeWait (s : State) (waits : s.tcb.state = .timeWait) :
    (segmentBody s).held.tcb.state = .timeWait := by
  obtain ⟨closed, -⟩ | ⟨-, -, run⟩ | ⟨-, -, run⟩ := segmentBody_cases s
  · exact absurd (closed.symm.trans waits) (by decide)
  · simp [run, waits]
  · rw [run, segmentCascade_timeWait _ (by simpa using waits), stageFin_tcb _ (by simp [waits])]
    simpa using waits

/-- SEGMENT stays in TimeWait. -/
theorem exec_segment_timeWait (s t : State) (waits : s.tcb.state = .timeWait)
    (run : exec .segment s = .next t) : t.tcb.state = .timeWait := by
  cases parse : s.frame with
  | ok v =>
    obtain rfl := Host.Outcome.next.inj ((exec_segment_ok s v parse).symm.trans run)
    rw [Flow.finish_tcb]
    exact segmentBody_timeWait _ (by simpa using waits)
  | error c =>
    obtain rfl := Host.Outcome.next.inj ((exec_segment_error s c parse).symm.trans run)
    simpa using waits

/-- PARSE does not write the TCB group. -/
theorem exec_parse_tcb (s t : State) (run : exec .parse s = .next t) : t.tcb = s.tcb := by
  obtain ⟨v, -, ended⟩ | ⟨c, -, raised⟩ := execParse_cases s
  · obtain rfl := Host.Outcome.next.inj (ended.symm.trans run)
    simp
  · obtain rfl := Host.Outcome.next.inj (raised.symm.trans run)
    simp

/-- SYNRCV does not write the TCB group when there is a TCB (44_accept.md R352). -/
theorem exec_synrcv_tcb (s t : State) (connected : s.tcb.state ≠ .closed)
    (run : exec .synrcv s = .next t) : t.tcb = s.tcb := by
  obtain ⟨v, -, ended⟩ | ⟨c, -, raised⟩ := execSynrcv_cases s
  · obtain rfl := Host.Outcome.next.inj (ended.symm.trans run)
    obtain ⟨-, busy⟩ | ⟨closed, -⟩ | ⟨closed, -⟩ := synrcvBody_cases (s.startCommand.withView v)
    · simp [busy]
    · exact absurd closed connected
    · exact absurd closed connected
  · obtain rfl := Host.Outcome.next.inj (raised.symm.trans run)
    simp

/-- CLOSE does not write the TCB group outside Established. -/
theorem exec_close_tcb (s t : State) (notEstablished : s.tcb.state ≠ .established)
    (run : exec .close s = .next t) : t.tcb = s.tcb := by
  obtain rfl := Host.Outcome.next.inj ((exec_close s).symm.trans run)
  obtain ⟨-, refused⟩ | ⟨-, -, refused⟩ | ⟨established, -⟩ := closeBody_cases s.startCommand
  · simp [refused]
  · simp [refused]
  · exact absurd established notEstablished

/-- Every command but RELEASE stays in TimeWait. -/
theorem exec_timeWait (i : Instr) (s t : State) (notRelease : i ≠ .release)
    (waits : s.tcb.state = .timeWait) (run : exec i s = .next t) : t.tcb.state = .timeWait := by
  cases i with
  | between =>
    obtain rfl := Host.Outcome.next.inj ((exec_between s).symm.trans run)
    exact waits
  | acceptable syn fin =>
    obtain rfl := Host.Outcome.next.inj run
    simpa using waits
  | parse => rw [exec_parse_tcb s t run, waits]
  | synrcv => rw [exec_synrcv_tcb s t (by simp [waits]) run, waits]
  | segment => exact exec_segment_timeWait s t waits run
  | release => exact absurd rfl notRelease
  | close => rw [exec_close_tcb s t (by simp [waits]) run, waits]

/-- A host write to CMD leaves TimeWait only by RELEASE. -/
theorem writeCmd_timeWait (w : Word) (s t : State) (waits : s.tcb.state = .timeWait)
    (run : writeCmd w s = .next t) : t.tcb.state = .timeWait ∨ decode w = .ok .release := by
  obtain ⟨i, decoded, command⟩ | ⟨_, -, illegal⟩ := writeCmd_cases w s
  · by_cases release : i = .release
    · exact .inr (release ▸ decoded)
    · exact .inl (exec_timeWait i _ t release (by simpa using waits) (command.symm.trans run))
  · obtain rfl := Host.Outcome.next.inj (illegal.symm.trans run)
    rw [illegalCommand_eq]
    exact .inl waits

/-- Settles O44: host accesses that start no command keep the TCB group, and of the commands only RELEASE writes
STATE in TimeWait. -/
theorem timeWaitEndsByReleaseOrReset : Obligations.TimeWaitEndsByReleaseOrReset := by
  unfold Obligations.TimeWaitEndsByReleaseOrReset
  refine ⟨exec_segment_timeWait, fun s t e waits run => ?_⟩
  by_cases reset : e = .reset
  · exact .inr (.inl reset)
  by_cases command : ∃ w, e = .writeReg 0x00 w
  · obtain ⟨w, rfl⟩ := command
    obtain stays | release := writeCmd_timeWait w s t waits run
    · exact .inl stays
    · exact .inr (.inr ⟨w, rfl, release⟩)
  · obtain ⟨sameTcb, -, -⟩ :=
      readOnlyRegistersIgnoreWrites.2 s t e run reset (fun w is => command ⟨w, is⟩)
    exact .inl (by rw [sameTcb, waits])

/-! What SEGMENT reads of a frame. -/

/-- A flag counts as its number. -/
theorem flagWord_toNat (b : Bool) : (flagWord b).toNat = b.toNat := by
  cases b <;> rfl

/-- The sequence length as a number: it never wraps. -/
theorem seqLength_toNat (dataLen : Half) (syn fin : Bool) :
    (seqLength dataLen syn fin).toNat = dataLen.toNat + syn.toNat + fin.toNat := by
  have small := dataLen.isLt
  have synSmall := syn.toNat_le
  have finSmall := fin.toNat_le
  simp only [seqLength, BitVec.toNat_add, BitVec.toNat_setWidth, flagWord_toNat]
  omega

/-- Two views are the same segment to SEGMENT: same sequence and acknowledgment numbers, sequence length, FIN and
ACK. -/
structure View.SameSegment (v v' : View) : Prop where
  seq : v'.seq = v.seq
  ack : v'.ack = v.ack
  fin : finFlag v'.flags = finFlag v.flags
  ackFlag : ackFlag v'.flags = ackFlag v.flags
  length : seqLength v'.dlen (synFlag v'.flags) (finFlag v'.flags) =
    seqLength v.dlen (synFlag v.flags) (finFlag v.flags)

/-- The acceptability evaluation reads the payload length, SYN and FIN only through the sequence length. -/
theorem View.SameSegment.segmentAcc {v v' : View} (same : v.SameSegment v') (t : Tcb) :
    segmentAcc t v' = segmentAcc t v := by
  simp only [Machine.segmentAcc, acc, same.seq, same.length]

/-- The ACK check reads the ACK flag and the acknowledgment number. -/
theorem View.SameSegment.ackOk {v v' : View} (same : v.SameSegment v') (t : Tcb) :
    ackOk t v' = ackOk t v := by
  simp only [Machine.ackOk, same.ack, same.ackFlag]

/-- The TXBUF bytes that an emission writes read the same in both states. -/
def sameTxbuf (s s' : State) : Prop := ∀ i, i < 40 → s'.bufByte (txBase + i) = s.bufByte (txBase + i)

/-- Two states that differ in the frame alone: in RXLEN, in buffer bytes outside a datagram this command emitted,
and in what SEGMENT does not read of the view. -/
structure State.SameButFrame (s s' : State) : Prop where
  rest : s' = { s with buf := s'.buf, rxlen := s'.rxlen, view := s'.view }
  segment : s.view.SameSegment s'.view
  emitted : s.txvalid = true → sameTxbuf s s'

section
variable {s s' : State}

theorem State.SameButFrame.tcb (h : s.SameButFrame s') : s'.tcb = s.tcb := by rw [h.rest]

theorem State.SameButFrame.autoclose (h : s.SameButFrame s') : s'.autoclose = s.autoclose := by rw [h.rest]

theorem State.SameButFrame.segmentAcc (h : s.SameButFrame s') :
    segmentAcc s'.tcb s'.view = segmentAcc s.tcb s.view := by
  rw [h.tcb, h.segment.segmentAcc]

theorem State.SameButFrame.ackOk (h : s.SameButFrame s') :
    ackOk s'.tcb s'.view = ackOk s.tcb s.view := by
  rw [h.tcb, h.segment.ackOk]

/-- Besides the view, every register SEGMENT writes is the same in both states. -/
theorem State.SameButFrame.reports (h : s.SameButFrame s') :
    s'.tcb = s.tcb ∧ s'.status = s.status ∧ s'.sticky = s.sticky ∧ s'.res = s.res ∧
      s'.slen = s.slen ∧ s'.wend = s.wend ∧ s'.txvalid = s.txvalid ∧ s'.txlen = s.txlen := by
  rw [h.rest]
  simp

/-! Each operation takes two states that differ in the frame alone to two such states. -/

theorem State.SameButFrame.withTcb (h : s.SameButFrame s') (t : Tcb) :
    (s.withTcb t).SameButFrame (s'.withTcb t) where
  rest := congrArg (State.withTcb · t) h.rest
  segment := h.segment
  emitted := h.emitted

theorem State.SameButFrame.recordAcc (h : s.SameButFrame s') (a : Acc) :
    (s.recordAcc a).SameButFrame (s'.recordAcc a) where
  rest := congrArg (State.recordAcc · a) h.rest
  segment := h.segment
  emitted := h.emitted

theorem State.SameButFrame.enter (h : s.SameButFrame s') (st : TcbState) :
    (s.enter st).SameButFrame (s'.enter st) := by
  unfold State.enter
  rw [h.tcb]
  exact h.withTcb _

/-- Both emissions put the one datagram that the common TCB gives into TXBUF. -/
theorem State.SameButFrame.emit (h : s.SameButFrame s') : (emit s).SameButFrame (emit s') where
  rest := by
    rw [emit_eq s', emit_eq s, h.rest]
  segment := by simpa using h.segment
  emitted _ i hi := by
    have stored := (emittedInto_of_buf s (Machine.emit s) s.tcb (by simp) (by simp)).1 i hi
    have stored' := (emittedInto_of_buf s' (Machine.emit s') s.tcb (by simp [h.tcb]) (by simp)).1 i hi
    exact Option.some.inj (stored'.trans stored.symm)

theorem State.SameButFrame.sendFin (h : s.SameButFrame s') : (sendFin s).SameButFrame (sendFin s') := by
  rw [sendFin_eq, sendFin_eq, h.tcb]
  exact ((h.withTcb _).emit).enter _

theorem State.SameButFrame.stageAdvance (h : s.SameButFrame s') :
    (stageAdvance s).SameButFrame (stageAdvance s') := by
  unfold Machine.stageAdvance
  rw [h.segmentAcc, h.segment.seq, h.tcb]
  exact h.withTcb _

theorem State.SameButFrame.stageEstablish (h : s.SameButFrame s') (ackok : Bool) :
    (stageEstablish ackok s).SameButFrame (stageEstablish ackok s') := by
  unfold Machine.stageEstablish
  rw [h.tcb]
  split
  · exact h.enter _
  · exact h

theorem State.SameButFrame.stageAck (h : s.SameButFrame s') (ackok : Bool) :
    (stageAck ackok s).SameButFrame (stageAck ackok s') := by
  have acked := h.withTcb { s.tcb with sndUna := s.view.ack }
  rw [stageAck_eq, stageAck_eq, h.tcb, h.autoclose, h.segment.ack]
  split_ifs
  · exact acked.sendFin
  · exact acked
  · exact h

theorem State.SameButFrame.stageFinAcked (h : s.SameButFrame s') :
    (stageFinAcked s).SameButFrame (stageFinAcked s') := by
  unfold Machine.stageFinAcked
  rw [h.tcb]
  split
  · exact h.enter _
  · exact h

/-- Two flows that go on, or raise one status, with states that differ in the frame alone. -/
inductive Flow.SameButFrame : Flow → Flow → Prop where
  | go {s s' : State} (h : s.SameButFrame s') : Flow.SameButFrame (.go s) (.go s')
  | raise {s s' : State} (c : Status) (h : s.SameButFrame s') : Flow.SameButFrame (.raise c s) (.raise c s')

theorem State.SameButFrame.raiseStatus (h : s.SameButFrame s') (c : Status) :
    (s.raiseStatus c).SameButFrame (s'.raiseStatus c) := by
  rw [State.raiseStatus_eq, State.raiseStatus_eq]
  exact { rest := by rw [h.rest], segment := h.segment, emitted := h.emitted }

/-- Ending a command is a raise of the status it has. -/
theorem State.endCommand_eq_raiseStatus (s : State) : s.endCommand = s.raiseStatus s.status := rfl

theorem Flow.SameButFrame.finish {f f' : Flow} (h : f.SameButFrame f') :
    f.finish.SameButFrame f'.finish := by
  cases h with
  | @go s s' h =>
    have status : s'.status = s.status := by rw [h.rest]
    rw [Flow.finish_go, Flow.finish_go, State.endCommand_eq_raiseStatus, State.endCommand_eq_raiseStatus,
      status]
    exact h.raiseStatus _
  | raise c h => exact h.raiseStatus c

theorem State.SameButFrame.stageFin (h : s.SameButFrame s') : (stageFin s).SameButFrame (stageFin s') := by
  unfold Machine.stageFin
  rw [h.tcb, h.segment.fin]
  split_ifs
  · exact .go (h.emit.enter _)
  · exact .raise _ h
  · exact .go h

theorem State.SameButFrame.segmentCascade (h : s.SameButFrame s') :
    (segmentCascade s).SameButFrame (segmentCascade s') := by
  unfold Machine.segmentCascade
  rw [h.ackOk]
  exact ((h.stageEstablish _).stageAck _).stageFinAcked.stageFin

theorem State.SameButFrame.segmentBody (h : s.SameButFrame s') :
    (segmentBody s).SameButFrame (segmentBody s') := by
  unfold Machine.segmentBody
  rw [h.segmentAcc, h.tcb]
  have recorded := h.recordAcc (Machine.segmentAcc s.tcb s.view)
  dsimp only
  split_ifs
  · exact .raise _ h
  · exact .raise _ recorded.emit
  · exact recorded.stageAdvance.segmentCascade

end

/-! SEGMENT keeps the view its parse wrote. -/

theorem stageFin_view (s : State) : (stageFin s).held.view = s.view := by
  obtain ⟨-, run⟩ | ⟨-, -, run⟩ | ⟨-, -, run⟩ := stageFin_cases s <;> simp [run]

theorem segmentBody_view (s : State) : (segmentBody s).held.view = s.view := by
  obtain ⟨-, run⟩ | ⟨-, -, run⟩ | ⟨-, -, run⟩ := segmentBody_cases s <;>
    simp [run, segmentCascade, stageFin_view]

/-- Views whose flags and lengths agree as R274 and R276 say are the same segment. -/
theorem View.sameSegment_of_bits {v v' : View} (seq : v'.seq = v.seq) (ack : v'.ack = v.ack)
    (fin : v'.flags.getLsbD 0 = v.flags.getLsbD 0) (ackBit : v'.flags.getLsbD 4 = v.flags.getLsbD 4)
    (length : v'.dlen.toNat + (v'.flags.getLsbD 1).toNat = v.dlen.toNat + (v.flags.getLsbD 1).toNat) :
    v.SameSegment v' where
  seq := seq
  ack := ack
  fin := fin
  ackFlag := ackBit
  length := by
    apply BitVec.eq_of_toNat_eq
    simp only [seqLength_toNat, synFlag, finFlag, fin, length]

/-- Settles O43: the runs start from states that differ in the frame alone, with TXVALID 0, and every stage keeps
them so; where the command emitted, TXBUF reads the same. -/
theorem segmentIgnoresFourTupleAndOtherFlags : Obligations.SegmentIgnoresFourTupleAndOtherFlags := by
  unfold Obligations.SegmentIgnoresFourTupleAndOtherFlags
  intro s t t' buf' rxlen' v v' parsed parsed' seq ack fin ackBit length run run'
  obtain rfl := Host.Outcome.next.inj ((exec_segment_ok s v parsed).symm.trans run)
  obtain rfl := Host.Outcome.next.inj ((exec_segment_ok _ v' parsed').symm.trans run')
  have start : ((s.startCommand.withRes false).withView v).SameButFrame
      ((({ s with buf := buf', rxlen := rxlen' } : State).startCommand.withRes false).withView v') :=
    { rest := rfl
      segment := View.sameSegment_of_bits seq ack fin ackBit length
      emitted := nofun }
  have alike := start.segmentBody.finish
  obtain ⟨tcb, status, sticky, res, slen, wend, txvalid, txlen⟩ := alike.reports
  refine ⟨tcb, status, sticky, res, slen, wend, txvalid, txlen, ?view, ?view', alike.emitted⟩
  case view => rw [Flow.finish_view, segmentBody_view, State.withView_view]
  case view' => rw [Flow.finish_view, segmentBody_view, State.withView_view]

end Sys2Proof.Machine
end

section
/-! PROOF. The sequence bookkeeping of an emission: what each flag sent does to SND_NXT and TPL_FLAGS, and the
statement that the two add up independently (43_emit.md R318). -/

namespace Sys2Proof.Machine

/-! Clearing a flag that is already 0 changes nothing, so the flag's row can be written without a case split. -/

theorem and_0xFD_of_synFlag (flags : Byte) (unset : synFlag flags = false) : flags &&& 0xFD = flags := by
  revert flags
  decide

theorem and_0xFE_of_finFlag (flags : Byte) (unset : finFlag flags = false) : flags &&& 0xFE = flags := by
  revert flags
  decide

/-- Clearing SYN leaves FIN as it is: this is why the two rows of R318 are independent. -/
theorem finFlag_and_0xFD (flags : Byte) : finFlag (flags &&& 0xFD) = finFlag flags := by
  simp [finFlag]

/-! The three steps of the bookkeeping. -/

/-- SYN sent or not: SND_NXT counts it and TPL_FLAGS.SYN is 0 after. -/
theorem Tcb.afterSyn_eq (t : Tcb) (sent : Byte) (synSent : synFlag sent = synFlag t.tplFlags) :
    t.afterSyn sent =
      { t with
        sndNxt := t.sndNxt + (if synFlag sent then 1 else 0)
        tplFlags := t.tplFlags &&& 0xFD } := by
  cases syn : synFlag sent with
  | true => simp [Tcb.afterSyn, syn]
  | false =>
    have kept := and_0xFD_of_synFlag t.tplFlags (synSent.symm.trans syn)
    simp only [Tcb.afterSyn, syn, kept, Bool.false_eq_true, if_false, add_zero]

/-- FIN sent or not: SND_NXT counts it and TPL_FLAGS.FIN is 0 after. -/
theorem Tcb.afterFin_eq (t : Tcb) (sent : Byte) (finSent : finFlag sent = finFlag t.tplFlags) :
    t.afterFin sent =
      { t with
        sndNxt := t.sndNxt + (if finFlag sent then 1 else 0)
        tplFlags := t.tplFlags &&& 0xFE } := by
  cases fin : finFlag sent with
  | true => simp [Tcb.afterFin, fin]
  | false =>
    have kept := and_0xFE_of_finFlag t.tplFlags (finSent.symm.trans fin)
    simp only [Tcb.afterFin, fin, kept, Bool.false_eq_true, if_false, add_zero]

/-- No emission carries payload, so none advances SND_NXT for it (R311). -/
@[simp] theorem Tcb.afterPayload_datagramLen (t : Tcb) : t.afterPayload datagramLen = t := by
  simp [Tcb.afterPayload]

/-- The bookkeeping after an emission, whatever flags were sent. -/
theorem Tcb.afterEmission_eq_flags (t : Tcb) :
    t.afterEmission =
      { t with
        sndNxt := t.sndNxt + (if synFlag t.tplFlags then 1 else 0) + (if finFlag t.tplFlags then 1 else 0)
        tplFlags := t.tplFlags &&& 0xFC } := by
  have bothCleared : t.tplFlags &&& 0xFD &&& 0xFE = t.tplFlags &&& 0xFC := BitVec.and_assoc _ _ _
  rw [Tcb.afterEmission, Tcb.afterPayload_datagramLen, Tcb.afterSyn_eq t t.tplFlags rfl,
    Tcb.afterFin_eq _ t.tplFlags (finFlag_and_0xFD t.tplFlags).symm]
  simp only [bothCleared]

/-- Settles O32: `emit` leaves the TCB to the bookkeeping, whose SYN and FIN rows are independent. -/
theorem emitSequenceBookkeeping : Obligations.EmitSequenceBookkeeping := by
  unfold Obligations.EmitSequenceBookkeeping
  intro s
  exact (emit_tcb s).trans (Tcb.afterEmission_eq_flags s.tcb)

end Sys2Proof.Machine
end

section
/-! PROOF. SYNRCV, by the verdict after its parse: BUSY, NOT_SYN, or a new TCB and its SYN+ACK; and RELEASE,
which leaves a TCB group of which every register reads 0 (44_accept.md R350 to R354, R359). -/

namespace Sys2Proof.Machine

/-! SYNRCV, by the parts of its rule. -/

/-- SYNRCV on a frame that passes every check. -/
theorem exec_synrcv_ok (s : State) (v : View) (parsed : s.frame = .ok v) :
    exec .synrcv s = .next (synrcvBody (s.startCommand.withView v)).finish :=
  calc exec .synrcv s
      = .next ((parseFrame s.startCommand).andThen synrcvBody).finish := rfl
    _ = _ := by rw [parseFrame_ok _ v (by simpa using parsed), Flow.andThen_go]

/-- A TCB exists already (R352). -/
theorem synrcvBody_busy (s : State) (connected : s.tcb.state ≠ .closed) :
    synrcvBody s = .raise .busy s := by
  simp [synrcvBody, connected]

/-- There is no TCB, and the segment asks for none (R353). -/
theorem synrcvBody_notSyn (s : State) (closed : s.tcb.state = .closed)
    (syn : synFlag s.view.flags = false) : synrcvBody s = .raise .notSyn s := by
  simp [synrcvBody, closed, syn]

/-- Of the flags, SYN alone decides that a connection is opened. -/
theorem synrcvBody_opens (s : State) (closed : s.tcb.state = .closed)
    (syn : synFlag s.view.flags = true) : synrcvBody s = .go (openConnection s) := by
  simp [synrcvBody, closed, syn]

/-- Sending SYN and ACK advances SND_NXT by one and leaves ACK alone in the template. -/
theorem Tcb.afterEmission_synAck (t : Tcb) (synAck : t.tplFlags = 0x12) :
    t.afterEmission = { t with sndNxt := t.sndNxt + 1, tplFlags := 0x10 } := by
  simp [Tcb.afterEmission_eq_flags, synAck, synFlag, finFlag]

/-- What opening a connection does to each field: the SYN+ACK goes out while STATE is still Closed. -/
theorem openConnection_eq (s : State) :
    openConnection s =
      { s with
        buf := s.buf.setBytes txBase
          (datagram 40 Config.pTtl (openedTcb s.synIss s.initWnd s.view))
        txlen := 40
        txvalid := true
        tcb :=
          { openedTcb s.synIss s.initWnd s.view with
            state := .synReceived, sndNxt := s.synIss + 1, tplFlags := 0x10 } } := by
  simp only [openConnection, emit_eq, State.enter, State.withTcb, datagramLen_eq,
    Tcb.afterEmission_synAck (openedTcb s.synIss s.initWnd s.view) rfl]
  rfl

/-- SYNRCV on a SYN in Closed opens the connection, and nothing raises after that. -/
theorem exec_synrcv_opens (s : State) (v : View) (closed : s.tcb.state = .closed)
    (parsed : s.frame = .ok v) (syn : synFlag v.flags = true) :
    exec .synrcv s = .next (openConnection (s.startCommand.withView v)) := by
  have accepted : synrcvBody (s.startCommand.withView v)
      = .go (openConnection (s.startCommand.withView v)) :=
    synrcvBody_opens _ (by simpa using closed) (by simpa using syn)
  rw [exec_synrcv_ok s v parsed, accepted, Flow.finish_go,
    State.endCommand_ok _ (by simp [openConnection_eq])]

/-- Settles O34: the effect of opening a connection, and the SYN+ACK it stores. The datagram does not
depend on STATE, so it is the one of the TCB in SynReceived as well. -/
theorem synrcvCreatesTcb : Obligations.SynrcvCreatesTcb := by
  unfold Obligations.SynrcvCreatesTcb
  intro s v closed parsed syn opened
  have sent : datagram 40 Config.pTtl opened = datagram 40 Config.pTtl (openedTcb s.opa s.initWnd v) :=
    datagram_congr _ _ _ _ rfl rfl rfl rfl rfl rfl rfl
  refine ⟨_, exec_synrcv_opens s v closed parsed syn, ?_, emittedInto_of_buf _ _ _ ?_ ?_⟩
  · simp [openConnection_eq, openedTcb, swapPorts, State.synIss, opened]
  · simp [openConnection_eq, State.synIss, sent]
  · simp [openConnection_eq]

/-- Settles O35: by the three verdicts of SYNRCV on a frame that passes every check. -/
theorem synrcvBusyAndNotSyn : Obligations.SynrcvBusyAndNotSyn := by
  unfold Obligations.SynrcvBusyAndNotSyn
  intro s v parsed
  refine ⟨fun connected => ?busy, fun closed noSyn => ?notSyn, fun closed syn => ?accepted⟩
  case busy =>
    rw [exec_synrcv_ok s v parsed, synrcvBody_busy _ (by simpa using connected), Flow.finish_raise,
      State.raiseStatus_eq]
    rfl
  case notSyn =>
    rw [exec_synrcv_ok s v parsed,
      synrcvBody_notSyn (s.startCommand.withView v) (by simpa using closed) noSyn,
      Flow.finish_raise, State.raiseStatus_eq]
    rfl
  case accepted =>
    refine ⟨_, exec_synrcv_opens s v closed parsed syn, ?_⟩
    rw [openConnection_eq]
    exact ⟨rfl, rfl, rfl⟩

/-! The TCB group as the host reads it (10_state.md R58, R72). -/

/-- The registers of the TCB group. -/
def Reg.tcbGroup : List Reg :=
  [.state, .sndUna, .sndNxt, .sndWnd, .sndUp, .sndWl1, .sndWl2, .sndIss,
   .rcvNxt, .rcvWnd, .rcvUp, .rcvIrs, .tplLaddr, .tplRaddr, .tplPorts, .tplFlags]

/-- The TCB group is the registers with numbers 0x10 to 0x1F. -/
theorem Reg.mem_tcbGroup_iff (r : Reg) :
    r ∈ Reg.tcbGroup ↔ 0x10 ≤ r.number.toNat ∧ r.number.toNat ≤ 0x1F := by
  cases r <;> decide

theorem State.readRegNo_number (s : State) (r : Reg) : s.readRegNo r.number = s.readReg r := by
  have named : Reg.ofNumber r.number = some r := (Reg.ofNumber_eq_some _ r).2 rfl
  simp [State.readRegNo, named]

/-- Zero extension keeps a register's value apart from 0. -/
theorem setWidth_eq_zero_iff {w : Nat} (x : BitVec w) (fits : w ≤ 32) : x.setWidth 32 = 0 ↔ x = 0 := by
  constructor
  · intro zero
    have value : x.toNat = 0 := by
      rw [← BitVec.toNat_setWidth_of_le fits, zero]
      rfl
    exact BitVec.eq_of_toNat_eq (value.trans BitVec.toNat_zero.symm)
  · rintro rfl
    simp

theorem flagWord_eq_zero_iff (b : Bool) : flagWord b = 0 ↔ b = false := by
  cases b <;> decide

theorem TcbState.code_eq_zero_iff (st : TcbState) : st.code = 0 ↔ st = .closed := by
  cases st <;> decide

theorem Tcb.eq_cleared_iff (t : Tcb) :
    t = .cleared ↔
      t.state = .closed ∧ t.sndUna = 0 ∧ t.sndNxt = 0 ∧ t.sndWnd = 0 ∧ t.sndUp = false ∧
      t.sndWl1 = 0 ∧ t.sndWl2 = 0 ∧ t.sndIss = 0 ∧ t.rcvNxt = 0 ∧ t.rcvWnd = 0 ∧
      t.rcvUp = false ∧ t.rcvIrs = 0 ∧ t.tplLaddr = 0 ∧ t.tplRaddr = 0 ∧ t.tplPorts = 0 ∧
      t.tplFlags = 0 := by
  cases t
  simp only [Tcb.cleared, Tcb.mk.injEq]

/-- Every register of the group reads 0 exactly when there is nothing in the group. -/
theorem State.readReg_tcbGroup_eq_zero_iff (s : State) :
    (∀ r ∈ Reg.tcbGroup, s.readReg r = 0) ↔ s.tcb = .cleared := by
  simp only [Reg.tcbGroup, List.forall_mem_cons, State.readReg, setWidth_eq_zero_iff,
    Nat.reduceLeDiff, flagWord_eq_zero_iff, TcbState.code_eq_zero_iff, Tcb.eq_cleared_iff, List.not_mem_nil,
    false_implies, implies_true, and_true]

/-- The same, by the register numbers the host reads. -/
theorem State.readRegNo_tcbGroup_eq_zero_iff (s : State) :
    (∀ n : RegNo, 0x10 ≤ n.toNat → n.toNat ≤ 0x1F → s.readRegNo n = 0) ↔ s.tcb = .cleared := by
  rw [← State.readReg_tcbGroup_eq_zero_iff]
  constructor
  · intro zero r member
    obtain ⟨low, high⟩ := (Reg.mem_tcbGroup_iff r).1 member
    rw [← State.readRegNo_number]
    exact zero r.number low high
  · intro zero n low high
    cases named : Reg.ofNumber n with
    | none => simp [State.readRegNo, named]
    | some r =>
      obtain rfl := (Reg.ofNumber_eq_some n r).1 named
      rw [State.readRegNo_number]
      exact zero r ((Reg.mem_tcbGroup_iff r).2 ⟨low, high⟩)

/-! RELEASE. -/

/-- The exact state RELEASE ends in, from every state. -/
theorem exec_release (s : State) :
    exec .release s = .next { s with status := .ok, txvalid := false, tcb := .cleared } :=
  calc exec .release s
      = .next (s.startCommand.withTcb .cleared).endCommand := rfl
    _ = .next (s.startCommand.withTcb .cleared) := by rw [State.endCommand_ok _ (by simp)]

/-- RELEASE's word (R144). -/
theorem decode_release : decode 0x00000006 = .ok .release := by
  have word : encode .release = 0x00000006 := by decide
  rw [← word]
  exact (decode_eq_ok_iff_fields _ _).2 (fieldsOf_encode .release)

/-- Settles O36: by the exact effect of RELEASE, and a group of zeros being one and the same group. -/
theorem releaseClearsTheTcbGroup : Obligations.ReleaseClearsTheTcbGroup := by
  unfold Obligations.ReleaseClearsTheTcbGroup
  refine ⟨decode_release, fun s => ⟨_, exec_release s, rfl, rfl, ?_, fun zero => ?_⟩⟩
  · exact (State.readRegNo_tcbGroup_eq_zero_iff _).2 rfl
  · exact ((State.readRegNo_tcbGroup_eq_zero_iff s).1 zero).symm

end Sys2Proof.Machine
end

section
/-! PROOF. The frame validator, by the parts of PARSE_FRAME: the bytes each part looks at, so that the fields
45_frame.md R398 lists do not matter; the statuses each part can raise; and how a command ends when its parse
fails, a frame of bad length among the failures (R391, R396). -/

namespace Sys2Proof.Machine

/-! The two nibbles of a byte. -/

theorem lowNibble_eq_mod (b : Byte) : lowNibble b = b.toNat % 16 := by
  simp [lowNibble, BitVec.extractLsb'_toNat]

theorem highNibble_eq_div (b : Byte) : highNibble b = b.toNat / 16 := by
  have bound := b.isLt
  simp only [highNibble, BitVec.extractLsb'_toNat, Nat.shiftRight_eq_div_pow]
  omega

/-! Multi-byte fields depend on their own bytes. -/

theorem half16_congr {rx rx' : Nat → Byte} {a n i : Nat} (same : ∀ j, a ≤ j → j < a + n → rx j = rx' j)
    (first : a ≤ i) (last : i + 2 ≤ a + n) : half16 rx i = half16 rx' i := by
  rw [half16, half16, same i (by omega) (by omega), same (i + 1) (by omega) (by omega)]

theorem word32_congr {rx rx' : Nat → Byte} {a n i : Nat} (same : ∀ j, a ≤ j → j < a + n → rx j = rx' j)
    (first : a ≤ i) (last : i + 4 ≤ a + n) : word32 rx i = word32 rx' i := by
  rw [word32, word32, same i (by omega) (by omega), same (i + 1) (by omega) (by omega),
    same (i + 2) (by omega) (by omega), same (i + 3) (by omega) (by omega)]

/-! The fields PARSE_FRAME examines, and that its verdict depends on nothing else. -/

/-- The IPv4 fields examined at fixed places: EtherType, the byte of Version and IHL, Total Length, Protocol and
both addresses. -/
structure SameIpFields (rx rx' : Nat → Byte) : Prop where
  etherType : half16 rx 2 = half16 rx' 2
  versionIhl : rx 4 = rx' 4
  totalLength : half16 rx 6 = half16 rx' 6
  protocol : rx 13 = rx' 13
  source : word32 rx 16 = word32 rx' 16
  destination : word32 rx 20 = word32 rx' 20

/-- The TCP fields examined in a header that starts at `4 + hlen`: of the byte of Data Offset the high half
only. -/
structure SameTcpFields (rx rx' : Nat → Byte) (hlen : Nat) : Prop where
  ports : word32 rx (4 + hlen) = word32 rx' (4 + hlen)
  seq : word32 rx (4 + hlen + 4) = word32 rx' (4 + hlen + 4)
  ack : word32 rx (4 + hlen + 8) = word32 rx' (4 + hlen + 8)
  dataOffset : highNibble (rx (4 + hlen + 12)) = highNibble (rx' (4 + hlen + 12))
  flags : rx (4 + hlen + 13) = rx' (4 + hlen + 13)
  window : half16 rx (4 + hlen + 14) = half16 rx' (4 + hlen + 14)

section
variable {rx rx' : Nat → Byte}

theorem SameIpFields.of_bytes (header : ∀ i ∈ [2, 3, 4, 6, 7, 13], rx i = rx' i)
    (addresses : ∀ i, 16 ≤ i → i < 24 → rx i = rx' i) : SameIpFields rx rx' where
  etherType := by rw [half16, half16, header 2 (by decide), header 3 (by decide)]
  versionIhl := header 4 (by decide)
  totalLength := by rw [half16, half16, header 6 (by decide), header 7 (by decide)]
  protocol := header 13 (by decide)
  source := word32_congr (n := 8) addresses (by omega) (by omega)
  destination := word32_congr (n := 8) addresses (by omega) (by omega)

theorem SameTcpFields.of_bytes {hlen : Nat}
    (numbers : ∀ i, 4 + hlen ≤ i → i < 4 + hlen + 12 → rx i = rx' i)
    (dataOffset : highNibble (rx (4 + hlen + 12)) = highNibble (rx' (4 + hlen + 12)))
    (flagsWindow : ∀ i, 4 + hlen + 13 ≤ i → i < 4 + hlen + 13 + 3 → rx i = rx' i) :
    SameTcpFields rx rx' hlen where
  ports := word32_congr numbers (by omega) (by omega)
  seq := word32_congr numbers (by omega) (by omega)
  ack := word32_congr numbers (by omega) (by omega)
  dataOffset := dataOffset
  flags := flagsWindow _ (by omega) (by omega)
  window := half16_congr flagsWindow (by omega) (by omega)

theorem SameIpFields.viewOf_eq (ip : SameIpFields rx rx') {hlen : Nat} (tcp : SameTcpFields rx rx' hlen)
    (tl thlen : Nat) : viewOf rx hlen tl thlen = viewOf rx' hlen tl thlen := by
  rw [viewOf, viewOf, ip.source, ip.destination, tcp.ports, tcp.seq, tcp.ack, tcp.flags,
    tcp.window]

theorem SameIpFields.parseTcp_eq (ip : SameIpFields rx rx') {hlen : Nat} (tcp : SameTcpFields rx rx' hlen)
    (tl : Nat) : parseTcp rx hlen tl = parseTcp rx' hlen tl := by
  simp only [parseTcp, tcp.dataOffset, ip.viewOf_eq tcp]

theorem SameIpFields.parseIp_eq (ip : SameIpFields rx rx')
    (tcp : SameTcpFields rx rx' (4 * lowNibble (rx 4))) (len : Nat) : parseIp len rx = parseIp len rx' := by
  rw [ip.versionIhl] at tcp
  simp only [parseIp, ip.versionIhl, ip.totalLength, ip.protocol, ip.parseTcp_eq tcp]

theorem SameIpFields.frameView_eq (ip : SameIpFields rx rx')
    (tcp : SameTcpFields rx rx' (4 * lowNibble (rx 4))) (len : Nat) :
    frameView len rx = frameView len rx' := by
  rw [frameView, frameView, ip.etherType, ip.parseIp_eq tcp]

end

/-- Settles O27: the bytes left free hold no examined field, and the TCB group is no part of the frame. -/
theorem unexaminedFieldsDoNotMatter : Obligations.UnexaminedFieldsDoNotMatter := by
  unfold Obligations.UnexaminedFieldsDoNotMatter
  refine ⟨?fields, fun s t => State.frame_congr _ _ rfl rfl rfl⟩
  intro len rx rx' tcp same offset
  have tcpStart : tcp = 4 + 4 * lowNibble (rx 4) := by rw [lowNibble_eq_mod]
  rw [← highNibble_eq_div, ← highNibble_eq_div, tcpStart] at offset
  rw [tcpStart] at same
  have ipFields : SameIpFields rx rx' :=
    .of_bytes (fun i header => same i (.inl header))
      (fun i first last => same i (.inr (.inl ⟨first, last⟩)))
  have tcpFields : SameTcpFields rx rx' (4 * lowNibble (rx 4)) :=
    .of_bytes (fun i first last => same i (.inr (.inr (.inl ⟨first, last⟩)))) offset
      (fun i first last => same i (.inr (.inr (.inr ⟨first, last⟩))))
  exact ipFields.frameView_eq tcpFields len

/-! The statuses a failed check gives (R400). -/

/-- The checks of the TCP header raise MALFORMED alone (R395). -/
theorem parseTcp_error {rx : Nat → Byte} {hlen tl : Nat} {c : Status}
    (failed : parseTcp rx hlen tl = .error c) : c = .malformed := by
  unfold parseTcp at failed
  dsimp only at failed
  split_ifs at failed with tooShort badOffset
  · exact (Except.error.inj failed).symm
  · exact (Except.error.inj failed).symm

/-- The checks of the IPv4 header, and those behind it: IGNORED is for another protocol than TCP (R394). -/
theorem parseIp_error {len : Nat} {rx : Nat → Byte} {c : Status} (failed : parseIp len rx = .error c) :
    c = .ignored ∨ c = .malformed := by
  unfold parseIp at failed
  dsimp only at failed
  split_ifs at failed with tooShort badHeader badTotal otherProtocol
  · exact .inr (Except.error.inj failed).symm
  · exact .inr (Except.error.inj failed).symm
  · exact .inr (Except.error.inj failed).symm
  · exact .inl (Except.error.inj failed).symm
  · exact .inr (parseTcp_error failed)

/-- The two statuses PARSE_FRAME can raise. -/
theorem frameView_error {len : Nat} {rx : Nat → Byte} {c : Status} (failed : frameView len rx = .error c) :
    c = .ignored ∨ c = .malformed := by
  unfold frameView at failed
  split_ifs at failed with badLength otherEtherType
  · exact .inr (Except.error.inj failed).symm
  · exact .inl (Except.error.inj failed).symm
  · exact parseIp_error failed

/-! How a command ends when its parse fails (R396). -/

/-- PARSE on a frame that fails a check. -/
theorem exec_parse_error (s : State) (c : Status) (failed : s.frame = .error c) :
    exec .parse s = .next (s.startCommand.withoutView.raiseStatus c) :=
  calc exec .parse s
      = .next (parseFrame s.startCommand).finish := rfl
    _ = _ := by rw [parseFrame_error _ c (by simpa using failed), Flow.finish_raise]

/-- SYNRCV on a frame that fails a check. -/
theorem exec_synrcv_error (s : State) (c : Status) (failed : s.frame = .error c) :
    exec .synrcv s = .next (s.startCommand.withoutView.raiseStatus c) :=
  calc exec .synrcv s
      = .next ((parseFrame s.startCommand).andThen synrcvBody).finish := rfl
    _ = _ := by rw [parseFrame_error _ c (by simpa using failed), Flow.andThen_raise, Flow.finish_raise]

/-- Every field of the state in which a command ends after a failed parse. -/
theorem raiseStatus_withoutView_eq (s : State) (c : Status) (rejected : c = .ignored ∨ c = .malformed) :
    s.startCommand.withoutView.raiseStatus c =
      { s with
        status := c
        txvalid := false
        vValid := false
        sticky := s.sticky ||| (if c = .ignored then 0x002 else 0x004) } := by
  rw [State.raiseStatus_eq]
  obtain rfl | rfl := rejected <;> rfl

/-- Settles O29: by the one way a failed parse ends a command; SEGMENT ends so from the state with RES 0. -/
theorem parseFailureEndsTheCommand : Obligations.ParseFailureEndsTheCommand := by
  unfold Obligations.ParseFailureEndsTheCommand
  intro s c failed
  have rejected : c = .ignored ∨ c = .malformed := frameView_error failed
  refine ⟨rejected, ?parse, ?synrcv, ?segment⟩
  case parse => rw [exec_parse_error s c failed, raiseStatus_withoutView_eq s c rejected]
  case synrcv => rw [exec_synrcv_error s c failed, raiseStatus_withoutView_eq s c rejected]
  case segment =>
    have resFirst : s.startCommand.withRes false = (s.withRes false).startCommand := rfl
    rw [exec_segment_error s c failed, resFirst, raiseStatus_withoutView_eq (s.withRes false) c rejected]
    rfl

/-- Check 1 stands before every read of RXBUF (R391). -/
theorem frameView_badLength {len : Nat} (bad : len > Config.pRxMax ∨ len < 4) (rx : Nat → Byte) :
    frameView len rx = .error .malformed := by
  rw [frameView, if_pos bad.symm]

/-- Settles O25: the verdict holds for all bytes, those in RXBUF among them, and then PARSE ends as after any
failed parse. -/
theorem badLengthIsMalformed : Obligations.BadLengthIsMalformed := by
  unfold Obligations.BadLengthIsMalformed
  intro s bad
  have failed : s.frame = .error .malformed := frameView_badLength bad s.rx
  refine ⟨frameView_badLength bad, ?_⟩
  rw [exec_parse_error s _ failed, raiseStatus_withoutView_eq s _ (.inr rfl)]
  rfl

end Sys2Proof.Machine
end

section
/-! PROOF. How a command ends (60_exceptions.md R445): every command is a flow that holds STICKY as it was until it
finishes, so the end adds the status's bit and nothing clears one but reset; and the raise of UNACCEPTABLE, with the
ACK that comes before it (R447). -/

namespace Sys2Proof.Machine

/-! STICKY at the end of a command. -/

theorem State.endCommand_sticky (s : State) : s.endCommand.sticky = stickyAfter s.sticky s.status := by
  unfold State.endCommand stickyAfter
  split <;> rfl

/-- However a command finishes, STICKY gains the bit of the status it finishes with. -/
theorem Flow.finish_sticky (f : Flow) : f.finish.sticky = stickyAfter f.held.sticky f.finish.status := by
  cases f with
  | go s => simp [State.endCommand_sticky]
  | raise c s =>
    rw [Flow.finish_raise, Flow.held_raise, State.raiseStatus_status]
    exact State.endCommand_sticky _

/-- Recording a status leaves every STICKY bit set that was set. -/
theorem stickyAfter_and (sticky : BitVec 11) (c : Status) : stickyAfter sticky c &&& sticky = sticky := by
  unfold stickyAfter
  split
  · exact BitVec.and_self
  · ext k small
    cases old : sticky[k] <;> simp [old]

/-! No part of a command's rule writes STICKY before the command finishes. -/

theorem parseFrame_sticky (s : State) : (parseFrame s).held.sticky = s.sticky := by
  cases parse : s.frame with
  | ok v => simp [parseFrame_ok s v parse]
  | error c => simp [parseFrame_error s c parse]

/-- A part that keeps STICKY can be put after another. -/
theorem Flow.andThen_sticky (f : Flow) {g : State → Flow} (keeps : ∀ s, (g s).held.sticky = s.sticky) :
    (f.andThen g).held.sticky = f.held.sticky := by
  cases f with
  | go s => exact keeps s
  | raise c s => rfl

theorem synrcvBody_sticky (s : State) : (synrcvBody s).held.sticky = s.sticky := by
  obtain ⟨-, busy⟩ | ⟨-, -, notSyn⟩ | ⟨-, -, opens⟩ := synrcvBody_cases s
  · rw [busy, Flow.held_raise]
  · rw [notSyn, Flow.held_raise]
  · rw [opens, Flow.held_go, openConnection_eq]

theorem stageFin_sticky (s : State) : (stageFin s).held.sticky = s.sticky := by
  obtain ⟨-, noFin⟩ | ⟨-, -, acked⟩ | ⟨-, -, violation⟩ := stageFin_cases s
  · rw [noFin, Flow.held_go]
  · simp [acked]
  · rw [violation, Flow.held_raise]

theorem segmentBody_sticky (s : State) : (segmentBody s).held.sticky = s.sticky := by
  obtain ⟨-, ignored⟩ | ⟨-, -, unacceptable⟩ | ⟨-, -, accepted⟩ := segmentBody_cases s
  · rw [ignored, Flow.held_raise]
  · simp [unacceptable]
  · simp [accepted, segmentCascade, stageFin_sticky]

theorem closeBody_sticky (s : State) : (closeBody s).held.sticky = s.sticky := by
  obtain ⟨-, ignored⟩ | ⟨-, -, violation⟩ | ⟨-, sends⟩ := closeBody_cases s
  · rw [ignored, Flow.held_raise]
  · rw [violation, Flow.held_raise]
  · simp [sends]

/-- Every command is a flow that has kept STICKY when it finishes. -/
theorem exec_finishes (i : Instr) (s : State) :
    ∃ f : Flow, exec i s = .next f.finish ∧ f.held.sticky = s.sticky := by
  cases i with
  | between =>
    exact ⟨.go (s.startCommand.withRes (between s.betweenStart s.betweenPoint s.betweenEnd)), rfl, rfl⟩
  | acceptable syn fin =>
    exact ⟨.go (s.startCommand.recordAcc
      (acc s.acceptSeqn s.acceptDataLen syn fin s.acceptNxt s.acceptWnd)), rfl, rfl⟩
  | parse => exact ⟨parseFrame s.startCommand, rfl, parseFrame_sticky _⟩
  | synrcv =>
    exact ⟨(parseFrame s.startCommand).andThen synrcvBody, rfl,
      (Flow.andThen_sticky _ synrcvBody_sticky).trans (parseFrame_sticky _)⟩
  | segment =>
    exact ⟨(parseFrame (s.startCommand.withRes false)).andThen segmentBody, rfl,
      (Flow.andThen_sticky _ segmentBody_sticky).trans (parseFrame_sticky _)⟩
  | release => exact ⟨.go (s.startCommand.withTcb .cleared), rfl, rfl⟩
  | close => exact ⟨closeBody s.startCommand, rfl, closeBody_sticky _⟩

/-- A host write to CMD, of a legal word or not, records in STICKY the status it leaves. -/
theorem writeCmd_sticky (w : Word) (s t : State) (run : writeCmd w s = .next t) :
    t.sticky = stickyAfter s.sticky t.status := by
  obtain ⟨i, -, command⟩ | ⟨_, -, illegal⟩ := writeCmd_cases w s
  · obtain ⟨f, finished, kept⟩ := exec_finishes i (s.withCmd w)
    obtain rfl := Host.Outcome.next.inj ((command.trans finished).symm.trans run)
    rw [Flow.finish_sticky, kept, State.withCmd_sticky]
  · obtain rfl := Host.Outcome.next.inj (illegal.symm.trans run)
    exact Flow.finish_sticky (.raise .illegalCmd (s.withCmd w).startCommand)

/-! STICKY under host accesses other than commands. -/

@[simp] theorem State.storeReg_sticky (s : State) (r : Reg) (v : Word) :
    (s.storeReg r v).sticky = s.sticky := by
  cases r <;> rfl

@[simp] theorem State.writeBufAddr_sticky (s : State) (a : BufAddr) (b : Byte) :
    (s.writeBufAddr a b).sticky = s.sticky := by
  unfold State.writeBufAddr
  split <;> rfl

/-- A host write to a number other than CMD's keeps STICKY. -/
theorem writeRegNo_sticky (s t : State) (n : RegNo) (v : Word) (h : n ≠ Reg.cmd.number)
    (run : writeRegNo n v s = .next t) : t.sticky = s.sticky := by
  obtain ⟨r, -, -, stored⟩ | ⟨-, ignored⟩ := writeRegNo_cases s n v h
  · obtain rfl := Host.Outcome.next.inj (stored.symm.trans run)
    exact State.storeReg_sticky s r v
  · obtain rfl := Host.Outcome.next.inj (ignored.symm.trans run)
    rfl

/-- A host event other than reset keeps STICKY, or is a write to CMD and records a status in it. -/
theorem perform_sticky (e : HostEvent) (s t : State) (notReset : e ≠ .reset) (run : perform e s = .next t) :
    t.sticky = s.sticky ∨ t.sticky = stickyAfter s.sticky t.status := by
  cases e with
  | readReg n =>
    obtain rfl := Host.Outcome.next.inj run
    exact .inl rfl
  | writeReg n v =>
    by_cases command : n = Reg.cmd.number
    · subst command
      exact .inr (writeCmd_sticky v s t run)
    · exact .inl (writeRegNo_sticky s t n v command run)
  | readBuf a =>
    obtain rfl := Host.Outcome.next.inj run
    exact .inl rfl
  | writeBuf a b =>
    obtain rfl := Host.Outcome.next.inj run
    exact .inl (State.writeBufAddr_sticky s a b)
  | reset => exact absurd rfl notReset

/-- Settles O46: a write to CMD records its status, which clears no bit, and every other event but reset keeps
STICKY. -/
theorem stickyAccumulatesStatuses : Obligations.StickyAccumulatesStatuses := by
  unfold Obligations.StickyAccumulatesStatuses
  refine ⟨fun s t w run => writeCmd_sticky w s t run, fun s t e run notReset => ?_⟩
  obtain kept | recorded := perform_sticky e s t notReset run
  · rw [kept, BitVec.and_self]
  · rw [recorded, stickyAfter_and]

/-! UNACCEPTABLE. -/

/-- Stage S2 stops SEGMENT on an unacceptable segment, after one emission (42_segment.md R263). -/
theorem segmentBody_unacceptable (s : State) (opened : s.tcb.state ≠ .closed)
    (rejected : (segmentAcc s.tcb s.view).ok = false) :
    segmentBody s = .raise .unacceptable (emit (s.recordAcc (segmentAcc s.tcb s.view))) := by
  simp [segmentBody, opened, rejected]

/-- An emission with ACK alone in the template: the TCB group stays, so only TXBUF, TXLEN and TXVALID change. -/
theorem emit_ack (s : State) (ack : s.tcb.tplFlags = 0x10) :
    emit s =
      { s with
        buf := s.buf.setBytes txBase (datagram 40 Config.pTtl s.tcb), txlen := 40, txvalid := true } := by
  rw [emit_eq, Tcb.afterEmission_ack s.tcb ack, datagramLen_eq]
  rfl

/-- SEGMENT on an unacceptable segment: stages S0 to S2, and the raise. -/
theorem exec_segment_unacceptable (s : State) (v : View) (opened : s.tcb.state ≠ .closed)
    (parsed : s.frame = .ok v) (rejected : (segmentAcc s.tcb v).ok = false) :
    exec .segment s =
      .next ((emit (((s.startCommand.withRes false).withView v).recordAcc (segmentAcc s.tcb v))).raiseStatus
        .unacceptable) := by
  have stopped := segmentBody_unacceptable ((s.startCommand.withRes false).withView v) opened rejected
  rw [exec_segment_ok s v parsed, stopped, Flow.finish_raise]
  rfl

/-- Settles O40: SEGMENT stops at stage S2, and by the invariant its one emission is an ACK, which leaves the TCB
group as it is. -/
theorem unacceptableSegmentIsAcked : Obligations.UnacceptableSegmentIsAcked := by
  unfold Obligations.UnacceptableSegmentIsAcked
  intro s v inv opened parsed a rejected
  have ack : s.tcb.tplFlags = 0x10 := inv.flags opened
  have resZero : (segmentAcc s.tcb v).ok = false := rejected
  refine ⟨ack, _, exec_segment_unacceptable s v opened parsed resZero, ?reports, ?emitted⟩
  case reports =>
    have sent := emit_ack (((s.startCommand.withRes false).withView v).recordAcc (segmentAcc s.tcb v)) ack
    rw [State.raiseStatus_eq, sent]
    simp only [State.recordAcc, State.withAcc, resZero]
    rfl
  case emitted => exact emittedInto_of_buf _ _ _ (by simp) (by simp [State.raiseStatus_eq])

end Sys2Proof.Machine
end

section
/-! PROOF. Reset (70_reset_and_hazards.md R480): every register at its value in the "reset" column of R72. A
register reads the same after a reset as in `State.reset`, because what reset keeps is no register. -/

namespace Sys2Proof.Machine

/-- CFG with AUTOCLOSE set: bit 16 beside INIT_WND in the low half (R43). -/
theorem cfgWord_autoclose (initWnd : Half) : cfgWord initWnd true = 0x10000 ||| initWnd.setWidth 32 := by
  rw [cfgWord, BitVec.append_def]
  simp

/-- Reset is no command: it goes straight to its state, in which nothing has been run or emitted (R480). -/
theorem perform_reset (s : State) : perform .reset s = .next s.afterReset := rfl

/-- The model's own fields, which a reset counts or keeps, are behind no register. -/
theorem State.afterReset_readReg (s : State) (r : Reg) : s.afterReset.readReg r = State.reset.readReg r := by
  cases r <;> rfl

/-- The "reset" column of R72. -/
theorem State.reset_readReg (r : Reg) :
    State.reset.readReg r = if r = .cfg then 0x10000 ||| Config.pInitWndReset.setWidth 32 else 0 := by
  cases r with
  | cfg => exact cfgWord_autoclose Config.pInitWndReset
  | _ => rfl

/-- The same, by the register numbers the host reads; a reserved number reads 0 and is not CFG's. -/
theorem State.reset_readRegNo (n : RegNo) :
    State.reset.readRegNo n = if n = 0x0A then 0x10000 ||| Config.pInitWndReset.setWidth 32 else 0 := by
  have cfgNumber : n = 0x0A ↔ Reg.ofNumber n = some .cfg := (Reg.ofNumber_eq_some n .cfg).symm
  cases named : Reg.ofNumber n with
  | none => simp only [State.readRegNo, cfgNumber, named, reduceCtorEq, if_false]
  | some r => simp only [State.readRegNo, cfgNumber, named, Option.some.injEq, State.reset_readReg]

theorem State.afterReset_readRegNo (s : State) (n : RegNo) :
    s.afterReset.readRegNo n = State.reset.readRegNo n := by
  unfold State.readRegNo
  cases Reg.ofNumber n with
  | none => rfl
  | some r => exact s.afterReset_readReg r

/-- Settles O14: by the register map of the state right after reset, which every later reset restores. -/
theorem resetSetsEveryRegister : Obligations.ResetSetsEveryRegister := by
  unfold Obligations.ResetSetsEveryRegister
  intro s n
  have restored := s.afterReset_readRegNo n
  exact ⟨s.afterReset, perform_reset s, restored.trans (State.reset_readRegNo n), restored.symm,
    rfl, rfl, rfl, rfl⟩

end Sys2Proof.Machine
end

section
/-! PROOF. The decoder against the encoder, the opcode map's masks and matches, and the words of its table
(30_encoding.md section 1). -/

namespace Sys2Proof

/-- An instruction's word decodes to it. -/
@[simp] theorem decode_encode (i : Instr) : decode (encode i) = .ok i :=
  (decode_eq_ok_iff_fields _ _).2 (fieldsOf_encode i)

theorem decode_eq_ok_iff_encode (w : Word) (i : Instr) : decode w = .ok i ↔ w = encode i := by
  constructor
  · exact eq_encode_of_decode w i
  · rintro rfl
    exact decode_encode i

/-- Settles O1: the fields of a decoded word are the instruction's, and these fix the word. -/
theorem decodeExactlyInvertsEncode : Obligations.DecodeExactlyInvertsEncode := by
  unfold Obligations.DecodeExactlyInvertsEncode
  exact decode_eq_ok_iff_encode

/-! The rows of the opcode map (R144). -/

/-- A row whose mask is full has one word. -/
theorem decode_eq_ok_iff_fullMask (w match_ : Word) (i : Instr) (word : encode i = match_) :
    decode w = .ok i ↔ w &&& 0xFFFFFFFF = match_ := by
  have full : w &&& 0xFFFFFFFF = w := BitVec.and_allOnes
  rw [decode_eq_ok_iff_encode, full, word]

/-- The words of ACCEPTABLE agree with its match outside the bits of its two operands. -/
theorem encode_acceptable_mask (syn fin : Bool) :
    encode (.acceptable syn fin) &&& 0xFFFFFCFF = 0x00000002 := by
  revert syn fin
  decide

/-- A word in ACCEPTABLE's row is the word of the operands it holds in bits 8 and 9. -/
theorem eq_encode_acceptable_of_mask (w : Word) (row : w &&& 0xFFFFFCFF = 0x00000002) :
    w = encode (.acceptable (w.getLsbD 8) (w.getLsbD 9)) := by
  ext k small
  rw [← BitVec.getLsbD_eq_getElem, ← BitVec.getLsbD_eq_getElem, encode, getLsbD_wordOf]
  have bit := congrArg (·.getLsbD k) row
  by_cases operand : k = 8 ∨ k = 9
  · obtain rfl | rfl := operand <;> rfl
  · have fixed : (0xFFFFFCFF : Word).getLsbD k = true := by
      interval_cases k <;> simp_all
    have same : w.getLsbD k = (0x00000002 : Word).getLsbD k := by
      simpa only [BitVec.getLsbD_and, fixed, Bool.and_true] using bit
    rw [same]
    interval_cases k <;> simp_all [Instr.fields]

theorem exists_decode_acceptable_iff_mask (w : Word) :
    (∃ syn fin, decode w = .ok (.acceptable syn fin)) ↔ w &&& 0xFFFFFCFF = 0x00000002 := by
  simp only [decode_eq_ok_iff_encode]
  constructor
  · rintro ⟨syn, fin, rfl⟩
    exact encode_acceptable_mask syn fin
  · intro row
    exact ⟨_, _, eq_encode_acceptable_of_mask w row⟩

/-- Settles O2: six rows have one word each, and ACCEPTABLE's has one for each pair of operands. -/
theorem opcodeMapMaskAndMatch : Obligations.OpcodeMapMaskAndMatch := by
  unfold Obligations.OpcodeMapMaskAndMatch
  intro w
  exact ⟨decode_eq_ok_iff_fullMask w _ _ (by decide), exists_decode_acceptable_iff_mask w,
    decode_eq_ok_iff_fullMask w _ _ (by decide), decode_eq_ok_iff_fullMask w _ _ (by decide),
    decode_eq_ok_iff_fullMask w _ _ (by decide), decode_eq_ok_iff_fullMask w _ _ (by decide),
    decode_eq_ok_iff_fullMask w _ _ (by decide)⟩

/-! The words of the opcode table. -/

/-- A table row of 32 bits that spells an instruction's word decodes to the instruction. -/
theorem decodeTableWord_of_word (n : Nat) (i : Instr) (word : (encode i).toNat = n) :
    decodeTableWord 32 n = some i := by
  have fits : n < 2 ^ 32 := word ▸ (encode i).isLt
  have spelled : BitVec.ofNat 32 n = encode i := by rw [← word, BitVec.ofNat_toNat, BitVec.setWidth_eq]
  rw [decodeTableWord, Nat.mod_eq_of_lt fits, if_pos fits, spelled, decode_encode]
  rfl

/-- Settles O5: each row of the table spells the word of its command. -/
theorem tableWordsDecode : Obligations.TableWordsDecode := by
  unfold Obligations.TableWordsDecode
  refine ⟨?_, ?_, ?_, ?_, ?_, ?_, ?_, ?_, ?_, ?_⟩ <;> exact decodeTableWord_of_word _ _ rfl

end Sys2Proof
end

section
/-! PROOF. Every command as one flow between its start and its end, what no part of a command's rule writes, and
the statements about the status, the registers and the buffer bytes a command can leave (10_state.md sections 2 to 4;
20_memory.md section 4; 60_exceptions.md sections 1 and 2). -/

namespace Sys2Proof.Machine

/-! A command between its start and end bookkeeping. -/

/-- What a command does after its start bookkeeping and before its end bookkeeping. -/
def commandBody : Instr → State → Flow
  | .between, s => .go (s.withRes (between s.opa s.opb s.opc))
  | .acceptable syn fin, s =>
    .go (s.recordAcc (acc s.acceptSeqn s.acceptDataLen syn fin s.acceptNxt s.acceptWnd))
  | .parse, s => parseFrame s
  | .synrcv, s => (parseFrame s).andThen synrcvBody
  | .segment, s => (parseFrame (s.withRes false)).andThen segmentBody
  | .release, s => .go (s.withTcb .cleared)
  | .close, s => closeBody s

/-- Every command is its body between the start and the end of a command. -/
theorem exec_eq (i : Instr) (s : State) :
    exec i s = .next (commandBody i s.startCommand).finish := by
  cases i <;> rfl

/-- The state in which a command ends. -/
theorem exec_next {i : Instr} {s t : State} (run : exec i s = .next t) :
    t = (commandBody i s.startCommand).finish :=
  Host.Outcome.next.inj (run.symm.trans (exec_eq i s))

/-! The end of a command writes STATUS and STICKY alone. -/

/-- The status a flow from STATUS OK ends with. -/
def Flow.code : Flow → Status
  | .go _ => .ok
  | .raise c _ => c

@[simp] theorem Flow.code_go (s : State) : (Flow.go s).code = .ok := rfl

@[simp] theorem Flow.code_raise (c : Status) (s : State) : (Flow.raise c s).code = c := rfl

/-- How a flow that has kept STATUS OK finishes. -/
theorem Flow.finish_eq (f : Flow) (ok : f.held.status = .ok) :
    f.finish = { f.held with status := f.code, sticky := stickyAfter f.held.sticky f.code } := by
  cases f with
  | go s =>
    rw [Flow.held_go] at ok
    rw [Flow.finish_go, State.endCommand_ok s ok, Flow.held_go, Flow.code_go, stickyAfter, if_pos rfl, ← ok]
  | raise c s =>
    rw [Flow.finish_raise, State.raiseStatus_eq]
    rfl

/-! What holds however a command is composed of its parts. -/

/-- A part can be put after another. -/
theorem Flow.held_andThen {P : State → Prop} {f : Flow} {g : State → Flow} (first : P f.held)
    (second : ∀ s, P s → P (g s).held) : P (f.andThen g).held := by
  cases f with
  | go s => exact second s first
  | raise c s => exact first

/-- A property of states that writing the TCB group and sending a datagram do not break. -/
structure KeptBySending (P : State → Prop) : Prop where
  withTcb : ∀ s t, P s → P (s.withTcb t)
  emit : ∀ s, P s → P (emit s)

/-- One that recording an acceptability evaluation does not break either: so no stage of SEGMENT breaks it. -/
structure KeptByStages (P : State → Prop) : Prop extends KeptBySending P where
  recordAcc : ∀ s seqn len syn fin nxt wnd, P s → P (s.recordAcc (acc seqn len syn fin nxt wnd))

/-- One that no part of any command's rule breaks: nor does setting RES, nor either end of a parse. -/
structure KeptByParts (P : State → Prop) : Prop extends KeptByStages P where
  withRes : ∀ s b, P s → P (s.withRes b)
  withView : ∀ s v, s.frame = .ok v → P s → P (s.withView v)
  withoutView : ∀ s, P s → P s.withoutView

section
variable {P : State → Prop}

theorem KeptBySending.sendFin (kept : KeptBySending P) {s : State} (h : P s) : P (sendFin s) :=
  kept.withTcb _ _ (kept.emit _ (kept.withTcb _ _ h))

theorem KeptBySending.synrcvBody (kept : KeptBySending P) {s : State} (h : P s) :
    P (synrcvBody s).held := by
  obtain ⟨-, busy⟩ | ⟨-, -, notSyn⟩ | ⟨-, -, opens⟩ := synrcvBody_cases s
  · rwa [busy]
  · rwa [notSyn]
  · rw [opens]
    exact kept.withTcb _ _ (kept.emit _ (kept.withTcb _ _ h))

theorem KeptBySending.closeBody (kept : KeptBySending P) {s : State} (h : P s) : P (closeBody s).held := by
  obtain ⟨-, ignored⟩ | ⟨-, -, violation⟩ | ⟨-, sends⟩ := closeBody_cases s
  · rwa [ignored]
  · rwa [violation]
  · rw [sends]
    exact kept.sendFin h

theorem KeptBySending.stageEstablish (kept : KeptBySending P) {s : State} (ackok : Bool) (h : P s) :
    P (stageEstablish ackok s) := by
  unfold Machine.stageEstablish
  split
  · exact kept.withTcb _ _ h
  · exact h

theorem KeptBySending.stageAck (kept : KeptBySending P) {s : State} (ackok : Bool) (h : P s) :
    P (stageAck ackok s) := by
  rw [stageAck_eq]
  split_ifs
  · exact kept.sendFin (kept.withTcb _ _ h)
  · exact kept.withTcb _ _ h
  · exact h

theorem KeptBySending.stageFinAcked (kept : KeptBySending P) {s : State} (h : P s) :
    P (stageFinAcked s) := by
  unfold Machine.stageFinAcked
  split
  · exact kept.withTcb _ _ h
  · exact h

theorem KeptBySending.stageFin (kept : KeptBySending P) {s : State} (h : P s) : P (stageFin s).held := by
  obtain ⟨-, noFin⟩ | ⟨-, -, acked⟩ | ⟨-, -, violation⟩ := stageFin_cases s
  · rwa [noFin]
  · rw [acked]
    exact kept.withTcb _ _ (kept.emit _ h)
  · rwa [violation]

theorem KeptBySending.segmentCascade (kept : KeptBySending P) {s : State} (h : P s) :
    P (segmentCascade s).held :=
  kept.stageFin (kept.stageFinAcked (kept.stageAck _ (kept.stageEstablish _ h)))

theorem KeptByStages.segmentBody (kept : KeptByStages P) {s : State} (h : P s) :
    P (segmentBody s).held := by
  have recorded : P (s.recordAcc (segmentAcc s.tcb s.view)) := kept.recordAcc _ _ _ _ _ _ _ h
  have advanced : P (stageAdvance (s.recordAcc (segmentAcc s.tcb s.view))) := kept.withTcb _ _ recorded
  obtain ⟨-, ignored⟩ | ⟨-, -, unacceptable⟩ | ⟨-, -, accepted⟩ := segmentBody_cases s
  · rwa [ignored]
  · rw [unacceptable]
    exact kept.emit _ recorded
  · rw [accepted]
    exact kept.segmentCascade advanced

theorem KeptByParts.parseFrame (kept : KeptByParts P) {s : State} (h : P s) :
    P (parseFrame s).held := by
  cases parse : s.frame with
  | ok v =>
    rw [parseFrame_ok s v parse]
    exact kept.withView s v parse h
  | error c =>
    rw [parseFrame_error s c parse]
    exact kept.withoutView s h

/-- What no part breaks, no command breaks before its end. -/
theorem KeptByParts.commandBody (kept : KeptByParts P) (i : Instr) {s : State} (h : P s) :
    P (commandBody i s).held := by
  cases i with
  | between => exact kept.withRes _ _ h
  | acceptable syn fin => exact kept.recordAcc _ _ _ _ _ _ _ h
  | parse => exact kept.parseFrame h
  | synrcv => exact Flow.held_andThen (kept.parseFrame h) fun _ => kept.synrcvBody
  | segment => exact Flow.held_andThen (kept.parseFrame (kept.withRes _ _ h)) fun _ => kept.segmentBody
  | release => exact kept.withTcb _ _ h
  | close => exact kept.closeBody h

end

/-! STATUS. -/

/-- No part of a command's rule writes STATUS. -/
theorem status_keptByParts (c : Status) : KeptByParts (fun s => s.status = c) where
  withRes _ _ h := h
  recordAcc _ _ _ _ _ _ _ h := h
  withTcb _ _ h := h
  withView _ _ _ h := h
  withoutView _ h := h
  emit s h := (emit_status s).trans h

/-- The exact end of a command: the state its body reached, with the body's code in STATUS and STICKY. -/
theorem exec_eq_code {i : Instr} {s t : State} (run : exec i s = .next t) :
    t =
      let f := commandBody i s.startCommand
      { f.held with status := f.code, sticky := stickyAfter f.held.sticky f.code } := by
  rw [exec_next run]
  exact Flow.finish_eq _ ((status_keptByParts .ok).commandBody i rfl)

theorem parseFrame_code (s : State) :
    (parseFrame s).code ∈ [Status.malformed, .ignored, .ok] := by
  cases parse : s.frame with
  | ok v => simp [parseFrame_ok s v parse]
  | error c =>
    rw [parseFrame_error s c parse]
    obtain rfl | rfl := frameView_error parse <;> simp

/-- The codes of two parts, one after the other. -/
theorem Flow.andThen_code {f : Flow} {g : State → Flow} {cs ds es : List Status} (first : f.code ∈ cs)
    (second : ∀ s, (g s).code ∈ ds) (all : ∀ c ∈ cs ++ ds, c ∈ es) : (f.andThen g).code ∈ es := by
  cases f with
  | go s => exact all _ (List.mem_append_right _ (second s))
  | raise c s => exact all _ (List.mem_append_left _ first)

theorem synrcvBody_code (s : State) : (synrcvBody s).code ∈ [Status.busy, .notSyn, .ok] := by
  obtain ⟨-, busy⟩ | ⟨-, -, notSyn⟩ | ⟨-, -, opens⟩ := synrcvBody_cases s
  · simp [busy]
  · simp [notSyn]
  · simp [opens]

theorem stageFin_code (s : State) : (stageFin s).code ∈ [Status.protocolViolation, .ok] := by
  obtain ⟨-, noFin⟩ | ⟨-, -, acked⟩ | ⟨-, -, violation⟩ := stageFin_cases s
  · simp [noFin]
  · simp [acked]
  · simp [violation]

theorem segmentBody_code (s : State) :
    (segmentBody s).code ∈ [Status.closedIgnored, .unacceptable, .protocolViolation, .ok] := by
  obtain ⟨-, ignored⟩ | ⟨-, -, unacceptable⟩ | ⟨-, -, accepted⟩ := segmentBody_cases s
  · simp [ignored]
  · simp [unacceptable]
  · rw [accepted]
    exact List.mem_cons_of_mem _ (List.mem_cons_of_mem _ (stageFin_code _))

theorem closeBody_code (s : State) :
    (closeBody s).code ∈ [Status.closedIgnored, .protocolViolation, .ok] := by
  obtain ⟨-, ignored⟩ | ⟨-, -, violation⟩ | ⟨-, sends⟩ := closeBody_cases s
  · simp [ignored]
  · simp [violation]
  · simp [sends]

/-- Settles O47: by the codes of each part a command is made of. -/
theorem statusCodesOfEachCommand : Obligations.StatusCodesOfEachCommand := by
  unfold Obligations.StatusCodesOfEachCommand
  intro s t i run
  have ends : t.status = (commandBody i s.startCommand).code := by rw [exec_eq_code run]
  rw [ends]
  cases i with
  | between | acceptable syn fin | release => exact List.mem_singleton.2 rfl
  | parse => exact parseFrame_code _
  | synrcv => exact Flow.andThen_code (parseFrame_code _) synrcvBody_code (by decide)
  | segment => exact Flow.andThen_code (parseFrame_code _) segmentBody_code (by decide)
  | close => exact closeBody_code _

/-! The start of a command. -/

/-- What CMD, STATUS and TXVALID were before, the start of a command forgets. -/
theorem writeCmd_forgets (s : State) (w w' : Word) (c : Status) (b : Bool) :
    writeCmd w { s with cmd := w', status := c, txvalid := b } = writeCmd w s := by
  obtain ⟨i, decoded, command⟩ | ⟨e, failed, illegal⟩ := writeCmd_cases w s
  · rw [command, writeCmd_ok w _ i decoded, exec_eq, exec_eq]
    rfl
  · rw [illegal, writeCmd_error w _ e failed]
    rfl

/-- The fields no command writes: CMD, the operand registers, RXLEN, CFG, and the model's own. All others are
blanked. -/
def State.hostFields (s : State) : State :=
  { State.reset with
    cmd := s.cmd, opa := s.opa, opb := s.opb, opc := s.opc, rxlen := s.rxlen, initWnd := s.initWnd
    autoclose := s.autoclose, resetCount := s.resetCount, pending := s.pending, returned := s.returned }

theorem State.hostFields_eq_iff (s t : State) :
    t.hostFields = s.hostFields ↔
      t.cmd = s.cmd ∧ t.opa = s.opa ∧ t.opb = s.opb ∧ t.opc = s.opc ∧ t.rxlen = s.rxlen ∧
      t.initWnd = s.initWnd ∧ t.autoclose = s.autoclose ∧ t.resetCount = s.resetCount ∧
      t.pending = s.pending ∧ t.returned = s.returned := by
  simp only [State.hostFields, State.mk.injEq]
  tauto

theorem hostFields_keptByParts (start : State) :
    KeptByParts (fun s => s.hostFields = start.hostFields) where
  withRes _ _ h := h
  recordAcc _ _ _ _ _ _ _ h := h
  withTcb _ _ h := h
  withView _ _ _ h := h
  withoutView _ h := h
  emit s h := by rw [emit_eq, ← h]; rfl

theorem exec_hostFields {i : Instr} {s t : State} (run : exec i s = .next t) :
    t.hostFields = s.hostFields := by
  rw [exec_eq_code run]
  exact (hostFields_keptByParts s).commandBody i rfl

theorem writeCmd_cmd (s t : State) (w : Word) (run : writeCmd w s = .next t) : t.cmd = w := by
  obtain ⟨i, -, command⟩ | ⟨-, -, illegal⟩ := writeCmd_cases w s
  · obtain ⟨cmd, -⟩ := (State.hostFields_eq_iff _ _).1 (exec_hostFields (command.symm.trans run))
    exact cmd
  · obtain rfl := Host.Outcome.next.inj (illegal.symm.trans run)
    rw [illegalCommand_eq]
    rfl

/-- Settles O48: every command reads the state only after its start bookkeeping, and so does the raise of an illegal
word. -/
theorem commandStartForgetsStatus : Obligations.CommandStartForgetsStatus := by
  unfold Obligations.CommandStartForgetsStatus
  intro s w w' c b start
  refine ⟨rfl, fun i decoded => ?legal, fun e failed => ?illegal, writeCmd_forgets s w w' c b,
    fun t run => writeCmd_cmd s t w run⟩
  case legal =>
    rw [perform_writeReg_cmd, writeCmd_ok w s i decoded, exec_eq, exec_eq]
    rfl
  case illegal =>
    rw [perform_writeReg_cmd, writeCmd_error w s e failed]
    rfl

/-! The registers each command writes. -/

/-- The three results of an acceptability evaluation; RES is BETWEEN's too. -/
def State.results (s : State) : Bool × Word × Word := (s.res, s.slen, s.wend)

theorem parseFrame_results (s : State) : (parseFrame s).held.results = s.results := by
  cases parse : s.frame with
  | ok v => rw [parseFrame_ok s v parse]; rfl
  | error c => rw [parseFrame_error s c parse]; rfl

theorem results_keptBySending (r : Bool × Word × Word) : KeptBySending (fun s => s.results = r) where
  withTcb _ _ h := h
  emit s h := by rwa [emit_eq]

/-- The commands without a verdict keep RES, SLEN and WEND. -/
theorem exec_results {i : Instr} {s t : State} (noVerdict : i ∈ [Instr.parse, .synrcv, .release, .close])
    (run : exec i s = .next t) : t.results = s.results := by
  have held : t.results = (commandBody i s.startCommand).held.results := by
    rw [exec_eq_code run]
    rfl
  rw [held]
  cases i with
  | parse => exact parseFrame_results _
  | synrcv =>
    exact Flow.held_andThen (P := fun t => t.results = s.results) (parseFrame_results _)
      fun _ => (results_keptBySending _).synrcvBody
  | release => rfl
  | close => exact (results_keptBySending s.results).closeBody rfl
  | between | acceptable | segment => simp at noVerdict

/-- V_VALID and the view registers. -/
def State.viewGroup (s : State) : Bool × View := (s.vValid, s.view)

/-- After its parse no command writes the view group. -/
theorem viewGroup_keptByStages (g : Bool × View) : KeptByStages (fun s => s.viewGroup = g) where
  withTcb _ _ h := h
  emit s h := by rwa [emit_eq]
  recordAcc _ _ _ _ _ _ _ h := h

/-- The commands that parse no frame keep the view group. -/
theorem exec_viewGroup {i : Instr} {s t : State} (noParse : i ∉ [Instr.parse, .synrcv, .segment])
    (run : exec i s = .next t) : t.viewGroup = s.viewGroup := by
  have held : t.viewGroup = (commandBody i s.startCommand).held.viewGroup := by
    rw [exec_eq_code run]
    rfl
  rw [held]
  cases i with
  | between | acceptable | release => rfl
  | close => exact (viewGroup_keptByStages s.viewGroup).closeBody rfl
  | parse | synrcv | segment => simp at noParse

/-- Without a valid view the view registers are those of `s`. -/
def State.KeepsInvalidView (s t : State) : Prop := t.vValid = false → t.view = s.view

/-- A parse makes the view valid or keeps the view registers (10_state.md R71). -/
theorem parseFrame_keepsInvalidView (s : State) : s.KeepsInvalidView (parseFrame s).held := by
  cases parse : s.frame with
  | ok v =>
    rw [parseFrame_ok s v parse]
    exact nofun
  | error c =>
    rw [parseFrame_error s c parse]
    exact fun _ => rfl

theorem keepsInvalidView_keptByStages (start : State) : KeptByStages start.KeepsInvalidView where
  withTcb _ _ h := h
  emit s h := by rwa [State.KeepsInvalidView, emit_view, emit_vValid]
  recordAcc _ _ _ _ _ _ _ h := h

theorem exec_keepsInvalidView {i : Instr} {s t : State} (run : exec i s = .next t) :
    s.KeepsInvalidView t := by
  suffices held : s.KeepsInvalidView (commandBody i s.startCommand).held by
    rw [exec_eq_code run]
    exact held
  have kept := keepsInvalidView_keptByStages s
  cases i with
  | between | acceptable | release => exact fun _ => rfl
  | close => exact kept.closeBody fun _ => rfl
  | parse => exact parseFrame_keepsInvalidView _
  | synrcv => exact Flow.held_andThen (parseFrame_keepsInvalidView _) fun _ => kept.synrcvBody
  | segment => exact Flow.held_andThen (parseFrame_keepsInvalidView _) fun _ => kept.segmentBody

/-- The commands that neither open, advance nor end a connection keep the TCB group. -/
theorem exec_tcb {i : Instr} {s t : State} (noTcb : i ∉ [Instr.synrcv, .segment, .release, .close])
    (run : exec i s = .next t) : t.tcb = s.tcb := by
  cases i with
  | between | acceptable => rw [exec_eq_code run]; rfl
  | parse => exact exec_parse_tcb s t run
  | synrcv | segment | release | close => simp at noTcb

/-- Settles O49: a group of registers at a time, by the parts of a command that write it. -/
theorem commandsWriteOnlyTheirRegisters : Obligations.CommandsWriteOnlyTheirRegisters := by
  unfold Obligations.CommandsWriteOnlyTheirRegisters
  intro s t i run
  refine ⟨(State.hostFields_eq_iff s t).1 (exec_hostFields run), ?res, ?length, ?view,
    exec_keepsInvalidView run, ?tcb⟩
  case res =>
    intro noVerdict
    exact (Prod.mk.inj (exec_results (by simpa using noVerdict) run)).1
  case length =>
    intro notSegment notAcceptable
    cases i with
    | between => rw [exec_eq_code run]; exact ⟨rfl, rfl⟩
    | acceptable syn fin => exact absurd rfl (notAcceptable syn fin)
    | segment => exact absurd rfl notSegment
    | parse | synrcv | release | close =>
      exact Prod.mk.inj (Prod.mk.inj (exec_results (by decide) run)).2
  case view =>
    intro notParse notSynrcv notSegment
    have same := Prod.mk.inj (exec_viewGroup (by simp [notParse, notSynrcv, notSegment]) run)
    exact same.symm
  case tcb =>
    intro notSynrcv notSegment notRelease notClose
    exact exec_tcb (by simp [notSynrcv, notSegment, notRelease, notClose]) run

/-! What a command sends. -/

/-- From `s` to `t` a command has stored bytes in TXBUF 0 to 39 only, and none if TXVALID is 0. -/
structure State.SentTo (s t : State) : Prop where
  outside : ∀ a, ¬(0x800 ≤ a ∧ a < 0x828) → t.bufByte a = s.bufByte a
  nothing : t.txvalid = false → buffersKept s t ∧ t.txlen = s.txlen
  length : t.txvalid = true → t.txlen = 40

theorem sentTo_keptByParts (start : State) : KeptByParts start.SentTo where
  withRes _ _ h := ⟨h.outside, h.nothing, h.length⟩
  recordAcc _ _ _ _ _ _ _ h := ⟨h.outside, h.nothing, h.length⟩
  withTcb _ _ h := ⟨h.outside, h.nothing, h.length⟩
  withView _ _ _ h := ⟨h.outside, h.nothing, h.length⟩
  withoutView _ h := ⟨h.outside, h.nothing, h.length⟩
  emit s h :=
    have stored := emittedInto_of_buf s (emit s) s.tcb (by simp) (by simp)
    { outside := fun a outside => (stored.2 a outside).trans (h.outside a outside)
      nothing := fun notSent => by simp at notSent
      length := fun _ => by simp }

/-- Settles O50: an emission is the one part that stores bytes, and the start of the command sets TXVALID to 0. -/
theorem commandsWriteOnlyTxbuf : Obligations.CommandsWriteOnlyTxbuf := by
  unfold Obligations.CommandsWriteOnlyTxbuf
  intro s t i run
  have start : s.SentTo s.startCommand := ⟨fun _ _ => rfl, fun _ => ⟨fun _ => rfl, rfl⟩, nofun⟩
  have sent := (sentTo_keptByParts s).commandBody i start
  rw [exec_eq_code run]
  exact ⟨sent.outside, sent.nothing, sent.length⟩

/-! PARSE on a good frame, and CLOSE where there is nothing to close. -/

/-- Settles O28: the parse writes the view, and nothing raises after it. -/
theorem parseCommandResult : Obligations.ParseCommandResult := by
  unfold Obligations.ParseCommandResult
  intro s v parsed
  calc exec .parse s
      = .next (parseFrame s.startCommand).finish := rfl
    _ = .next (s.startCommand.withView v).endCommand := by
      rw [parseFrame_ok _ v (by simpa using parsed), Flow.finish_go]
    _ = .next (s.startCommand.withView v) := by rw [State.endCommand_ok _ rfl]

/-- Settles O38: both refusals hold the state as the start of the command left it. -/
theorem closeOutsideEstablishedIsRefused : Obligations.CloseOutsideEstablishedIsRefused := by
  unfold Obligations.CloseOutsideEstablishedIsRefused
  intro s notEstablished
  rw [exec_close]
  obtain ⟨closed, refused⟩ | ⟨notClosed, -, refused⟩ | ⟨established, -⟩ := closeBody_cases s.startCommand
  · rw [State.startCommand_tcb] at closed
    rw [refused, Flow.finish_raise, State.raiseStatus_eq, if_pos closed, if_pos closed]
    rfl
  · rw [State.startCommand_tcb] at notClosed
    rw [refused, Flow.finish_raise, State.raiseStatus_eq, if_neg notClosed, if_neg notClosed]
    rfl
  · exact absurd established notEstablished

end Sys2Proof.Machine
end

section
/-! PROOF. One step: the event it performs, that it always answers a next state, and what a property of states takes
to hold after every step; and the host's accesses to the registers and to buffer space (10_state.md sections 1, 2
and 5; 20_memory.md sections 1 and 2). -/

namespace Sys2Proof.Machine

/-! One step. -/

theorem step_idle (s : State) (idle : s.pending = []) : step s = .next s := by
  simp [step, idle]

theorem step_pending (s : State) (e : HostEvent) (es : List HostEvent) (next : s.pending = e :: es) :
    step s = perform e (s.withPending es) := by
  simp [step, next]

/-- Settles O7: by the two cases of a step. -/
theorem stepTakesEventsInOrder : Obligations.StepTakesEventsInOrder := by
  unfold Obligations.StepTakesEventsInOrder
  exact fun s e es => ⟨step_idle s, step_pending s e es⟩

/-- Settles O6: the event is a write to CMD, and the word is legal. -/
theorem stepRunsDecodedCommand : Obligations.StepRunsDecodedCommand := by
  unfold Obligations.StepRunsDecodedCommand
  intro s es w i next decoded
  rw [step_pending s _ es next, perform_writeReg_cmd, writeCmd_ok w _ i decoded]
  rfl

/-- Everything a host event can do: a read returns data; a write stores in a register or in a buffer, is ignored, or is
a command, legal or not; and there is reset. -/
inductive Performs (s : State) : HostEvent → Host.Outcome State Fault Refusal → Prop where
  | returned (e : HostEvent) (d : BusData) : Performs s e (.next (s.withReturned d))
  | stored (e : HostEvent) (r : Reg) (v : Word) : Performs s e (.next (s.storeReg r v))
  | written (e : HostEvent) (a : BufAddr) (b : Byte) : Performs s e (.next (s.writeBufAddr a b))
  | ignored (e : HostEvent) : Performs s e (.next s)
  | command (w : Word) (i : Instr) (decoded : decode w = .ok i) :
      Performs s (.writeReg 0x00 w) (exec i (s.withCmd w))
  | illegal (e : HostEvent) (w : Word) : Performs s e (.next (illegalCommand (s.withCmd w)))
  | reset : Performs s .reset (.next s.afterReset)

/-- A write to a register number does one of these. -/
theorem performs_writeReg (s : State) (n : RegNo) (v : Word) :
    Performs s (.writeReg n v) (writeRegNo n v s) := by
  by_cases cmd : n = Reg.cmd.number
  · subst cmd
    change Performs s (.writeReg 0x00 v) (writeCmd v s)
    obtain ⟨i, decoded, run⟩ | ⟨_, -, run⟩ := writeCmd_cases v s
    · rw [run]
      exact .command v i decoded
    · rw [run]
      exact .illegal _ v
  · obtain ⟨r, -, -, run⟩ | ⟨-, run⟩ := writeRegNo_cases s n v cmd
    · rw [run]
      exact .stored _ r v
    · rw [run]
      exact .ignored _

theorem performs (e : HostEvent) (s : State) : Performs s e (perform e s) := by
  cases e with
  | readReg n => exact .returned _ _
  | writeReg n v => exact performs_writeReg s n v
  | readBuf a => exact .returned _ _
  | writeBuf a b => exact .written _ a b
  | reset => exact .reset

theorem perform_answers_next (e : HostEvent) (s : State) : ∃ t, perform e s = .next t := by
  have done := performs e s
  generalize perform e s = answer at done ⊢
  cases done with
  | command w i decoded => exact ⟨_, exec_eq i _⟩
  | _ => exact ⟨_, rfl⟩

/-- Settles O8: by the two cases of a step. -/
theorem everyStepAnswersNext : Obligations.EveryStepAnswersNext := by
  unfold Obligations.EveryStepAnswersNext
  intro s
  cases next : s.pending with
  | nil => exact ⟨s, step_idle s next⟩
  | cons e es =>
    rw [step_pending s e es next]
    exact perform_answers_next e _

/-- A property of states that every kind of host event keeps, commands among them, and that a reset brings
about. -/
structure KeptByHost (P : State → Prop) : Prop where
  withPending : ∀ s es, P s → P (s.withPending es)
  withReturned : ∀ s d, P s → P (s.withReturned d)
  storeReg : ∀ s r v, P s → P (s.storeReg r v)
  writeBufAddr : ∀ s a b, P s → P (s.writeBufAddr a b)
  afterReset : ∀ s : State, P s.afterReset
  withCmd : ∀ s w, P s → P (s.withCmd w)
  exec : ∀ i s t, P s → exec i s = .next t → P t
  illegalCommand : ∀ s, P s → P (illegalCommand s)

section
variable {P : State → Prop}

theorem KeptByHost.perform (kept : KeptByHost P) {e : HostEvent} {s t : State} (h : P s)
    (run : perform e s = .next t) : P t := by
  have done := performs e s
  generalize Machine.perform e s = answer at done run
  cases done with
  | command w i decoded => exact kept.exec i _ t (kept.withCmd _ _ h) run
  | returned d =>
    cases run
    exact kept.withReturned _ _ h
  | stored r v =>
    cases run
    exact kept.storeReg _ _ _ h
  | written a b =>
    cases run
    exact kept.writeBufAddr _ _ _ h
  | ignored =>
    cases run
    exact h
  | illegal w =>
    cases run
    exact kept.illegalCommand _ (kept.withCmd _ _ h)
  | reset =>
    cases run
    exact kept.afterReset s

/-- What every host event keeps, every step keeps. -/
theorem KeptByHost.step (kept : KeptByHost P) (s t : State) (h : P s) (run : step s = .next t) : P t := by
  cases next : s.pending with
  | nil =>
    obtain rfl := Host.Outcome.next.inj ((step_idle s next).symm.trans run)
    exact h
  | cons e es =>
    rw [step_pending s e es next] at run
    exact kept.perform (kept.withPending _ _ h) run

end

/-! The register map (R72, R73). -/

/-- The reserved numbers name no register. -/
theorem Reg.ofNumber_reserved (n : RegNo)
    (reserved : (0x0D ≤ n.toNat ∧ n.toNat ≤ 0x0F) ∨ 0x2C ≤ n.toNat) :
    Reg.ofNumber n = none := by
  cases named : Reg.ofNumber n with
  | none => rfl
  | some r =>
    obtain rfl := (Reg.ofNumber_eq_some n r).1 named
    revert reserved
    cases r <;> decide

/-- Settles O9: no register answers to a reserved number. -/
theorem reservedRegistersReadZero : Obligations.ReservedRegistersReadZero := by
  unfold Obligations.ReservedRegistersReadZero
  intro s n v reserved
  have unnamed := Reg.ofNumber_reserved n reserved
  have readsZero : s.readRegNo n = 0 := by simp [State.readRegNo, unnamed]
  refine ⟨?_, writeRegNo_reserved s n v unnamed⟩
  rw [perform, readsZero]
  rfl

theorem Status.code_setWidth_toNat (c : Status) :
    (c.code.setWidth 32).toNat =
      match c with
      | .ok => 0 | .ignored => 1 | .malformed => 2 | .unacceptable => 3 | .protocolViolation => 4
      | .checksumFailure => 5 | .transportError => 6 | .closedIgnored => 7 | .notSyn => 8
      | .busy => 9 | .illegalCmd => 10 := by
  cases c <;> rfl

theorem TcbState.code_setWidth_toNat (st : TcbState) :
    (st.code.setWidth 32).toNat =
      match st with
      | .closed => 0 | .synReceived => 1 | .established => 2 | .finWait1 => 3 | .finWait2 => 4
      | .timeWait => 5 := by
  cases st <;> rfl

/-- CFG as a number: INIT_WND, and AUTOCLOSE in bit 16 (R43). -/
theorem cfgWord_toNat (initWnd : Half) (autoclose : Bool) :
    (cfgWord initWnd autoclose).toNat = initWnd.toNat + 65536 * autoclose.toNat := by
  have low := initWnd.isLt
  have flag := autoclose.toNat_le
  rw [cfgWord, BitVec.toNat_setWidth_of_le (by decide), BitVec.toNat_append, BitVec.toNat_ofBool,
    ← Nat.shiftLeft_add_eq_or_of_lt low, Nat.shiftLeft_eq]
  omega

/-- Zero extension to a register word keeps the value. -/
theorem toNat_zext {w : Nat} (x : BitVec w) (fits : w ≤ 32 := by decide) : (x.setWidth 32).toNat = x.toNat :=
  BitVec.toNat_setWidth_of_le fits

/-- Settles O60: each number names its register, which holds a word, a narrower field or a flag. -/
theorem registerMapReads : Obligations.RegisterMapReads := by
  unfold Obligations.RegisterMapReads
  intro s x
  refine ⟨⟨rfl, ?status, toNat_zext s.sticky, flagWord_toNat s.res, rfl, rfl, rfl, toNat_zext s.rxlen,
      toNat_zext s.txlen, flagWord_toNat s.txvalid, cfgWord_toNat _ _, rfl, rfl⟩,
    ⟨?state, rfl, rfl, toNat_zext s.tcb.sndWnd, flagWord_toNat s.tcb.sndUp, rfl, rfl, rfl, rfl,
      toNat_zext s.tcb.rcvWnd, flagWord_toNat s.tcb.rcvUp, rfl, rfl, rfl, rfl, toNat_zext s.tcb.tplFlags⟩,
    flagWord_toNat s.vValid, rfl, rfl, toNat_zext s.view.proto, toNat_zext s.view.plen, rfl, rfl, rfl,
    toNat_zext s.view.wnd, toNat_zext s.view.flags, toNat_zext s.view.dlen, toNat_zext s.view.doff⟩
  case status => exact s.status.code_setWidth_toNat
  case state => exact s.tcb.state.code_setWidth_toNat

/-! The registers the host writes. -/

/-- Masking with ones below bit `n` keeps the value modulo `2 ^ n`. -/
theorem and_lowMask_toNat (v mask : Word) (n : Nat) (ones : mask.toNat = 2 ^ n - 1) :
    (v &&& mask).toNat = v.toNat % 2 ^ n := by
  rw [BitVec.toNat_and, ones, Nat.and_two_pow_sub_one_eq_mod]

/-- RXLEN holds the low half of the word written (R40). -/
theorem setWidth_extractLsb'_low (v : Word) : (v.extractLsb' 0 16).setWidth 32 = v &&& 0xFFFF := by
  apply BitVec.eq_of_toNat_eq
  rw [toNat_zext, and_lowMask_toNat v _ 16 rfl, BitVec.extractLsb'_toNat, Nat.shiftRight_zero]

/-- CFG holds the low seventeen bits of the word written (R43). -/
theorem cfgWord_extractLsb' (v : Word) : cfgWord (v.extractLsb' 0 16) (v.getLsbD 16) = v &&& 0x1FFFF := by
  apply BitVec.eq_of_toNat_eq
  have bit : (v.getLsbD 16).toNat = v.toNat / 2 ^ 16 % 2 := Nat.toNat_testBit v.toNat 16
  rw [cfgWord_toNat, and_lowMask_toNat v _ 17 rfl, BitVec.extractLsb'_toNat, Nat.shiftRight_zero, bit]
  omega

/-- Settles O11: each register is written at its own number, and reads back the bits it holds. -/
theorem writableRegistersStore : Obligations.WritableRegistersStore := by
  unfold Obligations.WritableRegistersStore
  intro s v
  refine ⟨⟨rfl, rfl⟩, ⟨rfl, rfl⟩, ⟨rfl, rfl⟩, ⟨_, rfl, rfl, ?rxlen⟩, ⟨_, rfl, rfl, ?cfg⟩⟩
  case rxlen => exact setWidth_extractLsb'_low v
  case cfg => exact cfgWord_extractLsb' v

/-! Reads have no side effect. -/

/-- Settles O13: a read changes what has been returned alone, and what it reads does not depend on that. -/
theorem hostReadsAreIdempotent : Obligations.HostReadsAreIdempotent := by
  unfold Obligations.HostReadsAreIdempotent
  intro s t u e d reads run again
  obtain ⟨n, rfl, rfl⟩ | ⟨a, rfl, rfl⟩ := reads
  · obtain rfl := Host.Outcome.next.inj run
    obtain rfl := Host.Outcome.next.inj again
    exact ⟨rfl, rfl⟩
  · obtain rfl := Host.Outcome.next.inj run
    obtain rfl := Host.Outcome.next.inj again
    exact ⟨rfl, rfl⟩

/-! Buffer space (20_memory.md R103 to R105). -/

theorem inRxbuf_iff (a : Nat) : inRxbuf a = true ↔ a < Config.pRxMax := decide_eq_true_iff

theorem inRxbuf_eq_false_iff (a : Nat) : inRxbuf a = false ↔ Config.pRxMax ≤ a := by
  rw [← Bool.not_eq_true, inRxbuf_iff, Nat.not_lt]

theorem inTxbuf_iff (a : Nat) : inTxbuf a = true ↔ 0x800 ≤ a ∧ a < 0x800 + Config.pMtu := by
  rw [inTxbuf, Bool.and_eq_true, decide_eq_true_iff, decide_eq_true_iff, txBase, Nat.add_comm]

theorem inTxbuf_eq_false_iff (a : Nat) : inTxbuf a = false ↔ ¬(0x800 ≤ a ∧ a < 0x800 + Config.pMtu) := by
  rw [← Bool.not_eq_true, inTxbuf_iff]

/-- TXBUF starts above RXBUF (R103). -/
theorem pRxMax_le_txBase : Config.pRxMax ≤ 0x800 := by decide

/-- A read of an address with storage. -/
theorem State.readBufAddr_stored (s : State) (a : BufAddr)
    (stored : inRxbuf a.toNat = true ∨ inTxbuf a.toNat = true) : s.readBufAddr a = s.bufByte a.toNat := by
  rw [State.readBufAddr, if_pos (Bool.or_eq_true_iff.2 stored)]

/-- A read of an address without. -/
theorem State.readBufAddr_absent (s : State) (a : BufAddr) (notRx : inRxbuf a.toNat = false)
    (notTx : inTxbuf a.toNat = false) : s.readBufAddr a = 0 := by
  simp [State.readBufAddr, notRx, notTx]

theorem perform_readBuf (s : State) (a : BufAddr) (b : Byte) (reads : s.readBufAddr a = b) :
    perform (.readBuf a) s = .next { s with returned := .byte b :: s.returned } := by
  rw [perform, reads]
  rfl

theorem perform_writeBuf_ignored (s : State) (a : BufAddr) (b : Byte) (notRx : inRxbuf a.toNat = false) :
    perform (.writeBuf a b) s = .next s := by
  rw [perform, State.writeBufAddr_ignored s a b notRx]

/-- A byte written to RXBUF is read there, and every other byte is as before. -/
theorem State.bufByte_setByte (s : State) (a a' : Nat) (b : Byte) :
    ({ s with buf := s.buf.setByte a b } : State).bufByte a' = if a' = a then b else s.bufByte a' := by
  simp only [State.bufByte, Memory.byteAt_setByte, eq_comm (a := a')]
  split <;> rfl

/-- Settles O12: by where the address lies. -/
theorem bufferAccessRights : Obligations.BufferAccessRights := by
  unfold Obligations.BufferAccessRights
  intro s a b
  refine ⟨fun rx => ?rxbuf, fun tx => ?txbuf, fun ⟨aboveRx, notTx⟩ => ?absent⟩
  case rxbuf =>
    have inRx := (inRxbuf_iff a.toNat).2 rx
    refine ⟨perform_readBuf s a _ (s.readBufAddr_stored a (.inl inRx)), s.writeBufAddr a b, rfl, ?_⟩
    rw [State.writeBufAddr_rxbuf s a b inRx]
    exact ⟨rfl, fun a' => s.bufByte_setByte a.toNat a' b⟩
  case txbuf =>
    have inTx := (inTxbuf_iff a.toNat).2 tx
    have notRx := (inRxbuf_eq_false_iff a.toNat).2 (pRxMax_le_txBase.trans tx.1)
    exact ⟨perform_readBuf s a _ (s.readBufAddr_stored a (.inr inTx)),
      perform_writeBuf_ignored s a b notRx⟩
  case absent =>
    have notRx := (inRxbuf_eq_false_iff a.toNat).2 aboveRx
    have absent := s.readBufAddr_absent a notRx ((inTxbuf_eq_false_iff a.toNat).2 notTx)
    exact ⟨perform_readBuf s a 0 absent, perform_writeBuf_ignored s a b notRx⟩

/-- Where nothing is written a buffer byte is its draw (R107). -/
theorem State.bufByte_unwritten (s : State) (a : Nat) (unwritten : s.buf = []) :
    s.bufByte a = Config.unwrittenByte s.resetCount a := by
  rw [State.bufByte, unwritten]
  rfl

/-- Settles O15: reset leaves no byte written, and counts itself. -/
theorem resetBuffersAreDraws : Obligations.ResetBuffersAreDraws := by
  unfold Obligations.ResetBuffersAreDraws
  intro s t a run
  obtain rfl := Host.Outcome.next.inj ((perform_reset s).symm.trans run)
  exact ⟨State.bufByte_unwritten _ a rfl, State.bufByte_unwritten _ a rfl, rfl, rfl⟩

end Sys2Proof.Machine
end

section
/-! PROOF. The circular comparison as a modular one, with the properties of it that the spec lists
(40_seqmath.md section 1), and the acceptability command's verdict as membership in the window
(41_acceptability.md sections 1 to 3). -/

namespace Sys2Proof.Machine

/-! The modular form: the distance from the start to the point is not 0, and less than that to the end. -/

theorem between_iff (s x e : Word) :
    between s x e = true ↔ x - s ≠ 0 ∧ (x - s).toNat < (e - s).toNat := by
  rcases BitVec.lt_trichotomy s x with above | rfl | below
  · rw [between_of_lt e above]
    simp only [Bool.not_eq_true', Bool.and_eq_false_iff, decide_eq_false_iff_not]
    bv_omega
  · simp
  · rw [between_of_gt e below]
    simp only [Bool.and_eq_true, decide_eq_true_iff]
    bv_omega

/-- Settles O17: case by case of the formula, the two say the same about the distances. -/
theorem betweenModularForm : Obligations.BetweenModularForm := by
  unfold Obligations.BetweenModularForm
  intro s x e
  rw [Bool.eq_iff_iff, between_iff, Bool.and_eq_true, decide_eq_true_iff, decide_eq_true_iff,
    BitVec.lt_def]

/-- Moving all three numbers along the circle changes no distance. -/
theorem between_add_right (s x e k : Word) : between (s + k) (x + k) (e + k) = between s x e := by
  rw [Bool.eq_iff_iff, between_iff, between_iff, add_sub_add_right_eq_sub, add_sub_add_right_eq_sub]

/-- Of two points only one comes before the other. -/
theorem between_asymm (s x e : Word) : ¬(between s x e = true ∧ between s e x = true) := by
  rintro ⟨first, second⟩
  exact Nat.lt_asymm ((between_iff s x e).1 first).2 ((between_iff s e x).1 second).2

/-- Without a wrap the comparison is the order of the numbers. -/
theorem between_of_lt_of_lt {a b c : Word} (ab : a < b) (bc : b < c) :
    between a b c = true ∧ between a c b = false := by
  have ordered : between a b c = true := by
    rw [between_iff]
    bv_omega
  exact ⟨ordered, Bool.eq_false_iff.2 fun reversed => between_asymm a b c ⟨ordered, reversed⟩⟩

/-- Settles O18: each property is one of distances, or of an arc without points. -/
theorem betweenRingProperties : Obligations.BetweenRingProperties := by
  unfold Obligations.BetweenRingProperties
  intro s x e k a b c
  exact ⟨between_start s e, between_of_lt_of_lt, between_end s x, between_emptyArc s x,
    between_add_right s x e k, between_asymm s x e,
    (between_of_lt_of_lt (by decide) (by decide)).1, (between_of_lt_of_lt (by decide) (by decide)).1⟩

/-! Acceptability. -/

/-- Settles O20: by the sequence length as a number, whose three parts have bounds. -/
theorem seqLengthNeverWraps : Obligations.SeqLengthNeverWraps := by
  unfold Obligations.SeqLengthNeverWraps
  intro d syn fin
  have small := d.isLt
  have synSmall := syn.toNat_le
  have finSmall := fin.toNat_le
  have length := seqLength_toNat d syn fin
  exact ⟨length, by omega⟩

/-- From just before `a` to `n` past it the circle holds the `n` numbers from `a` onward. -/
theorem between_pred_add (a x : Word) (n : Nat) (fits : n < 2 ^ 32 - 1) :
    between (a - 1) x (a + BitVec.ofNat 32 n) = true ↔ (x - a).toNat < n := by
  rw [between_iff]
  bv_omega

theorem windowEnd_eq_ofNat (nxt : Word) (wnd : Half) : windowEnd nxt wnd = nxt + BitVec.ofNat 32 wnd.toNat := by
  rw [windowEnd, BitVec.ofNat_toNat]

/-- The window holds the `wnd` numbers from `nxt` onward. -/
theorem between_window (nxt x : Word) (wnd : Half) :
    between (nxt - 1) x (windowEnd nxt wnd) = decide ((x - nxt).toNat < wnd.toNat) := by
  have small := wnd.isLt
  rw [Bool.eq_iff_iff, decide_eq_true_iff, windowEnd_eq_ofNat]
  exact between_pred_add nxt x wnd.toNat (by omega)

/-- The verdict as membership: with no length and no window only the number expected next is accepted, otherwise
the first or the last number of the segment must lie in the window. -/
theorem accVerdict_eq_window (seqn slen nxt : Word) (wnd : Half) :
    accVerdict seqn slen nxt wnd =
      if slen = 0 ∧ wnd = 0 then decide (seqn = nxt)
      else decide ((seqn - nxt).toNat < wnd.toNat) ||
        (decide (slen ≠ 0) && decide ((seqn + slen - 1 - nxt).toNat < wnd.toNat)) := by
  by_cases empty : slen = 0 <;> by_cases closed : wnd = 0
  · rw [if_pos ⟨empty, closed⟩, Bool.eq_iff_iff, accVerdict_empty_closed seqn nxt empty closed,
      decide_eq_true_iff]
  · rw [accVerdict_empty_open seqn nxt empty closed, between_window, if_neg (closed ·.2),
      decide_eq_false (not_not.2 empty), Bool.false_and, Bool.or_false]
  · rw [accVerdict_occupied_closed seqn nxt empty closed, if_neg (empty ·.1), closed]
    simp
  · rw [accVerdict_occupied_open seqn nxt empty closed, between_window, between_window,
      if_neg (empty ·.1), decide_eq_true empty, Bool.true_and]

/-- The exact state ACCEPTABLE ends in: nothing raises. -/
theorem exec_acceptable (syn fin : Bool) (s : State) :
    exec (.acceptable syn fin) s =
      .next (s.startCommand.recordAcc
        (acc s.acceptSeqn s.acceptDataLen syn fin s.acceptNxt s.acceptWnd)) :=
  congrArg Host.Outcome.next (State.endCommand_ok _ rfl)

/-- Settles O22: by the membership form of the verdict, with the sequence length and the window as numbers. -/
theorem acceptableCommandResult : Obligations.AcceptableCommandResult := by
  unfold Obligations.AcceptableCommandResult
  intro s syn fin wnd slen
  have value : (seqLength s.acceptDataLen syn fin).toNat = slen := seqLength_toNat _ syn fin
  have length : seqLength s.acceptDataLen syn fin = BitVec.ofNat 32 slen := by
    rw [← value, BitVec.ofNat_toNat, BitVec.setWidth_eq]
  have empty : BitVec.ofNat 32 slen = 0 ↔ slen = 0 := by
    rw [← length, ← BitVec.toNat_inj, value]
    rfl
  have closed : s.acceptWnd = 0 ↔ wnd = 0 := by
    rw [← BitVec.toNat_inj]
    rfl
  have verdict := accVerdict_eq_window s.acceptSeqn (BitVec.ofNat 32 slen) s.acceptNxt s.acceptWnd
  simp only [empty, closed, ne_eq] at verdict
  rw [exec_acceptable, acc, length, verdict, windowEnd_eq_ofNat]
  rfl

end Sys2Proof.Machine
end

section
/-! PROOF. PARSE_FRAME: the frames it accepts and the view of each, the status of the first check that fails, and
the bytes it reads (45_frame.md section 1). -/

namespace Sys2Proof.Machine

/-! The eight checks in order (R400). -/

/-- What the checks say agrees with what the validator answers: no failure and a view, or the same status. -/
def AgreesWith : Option Status → Except Status View → Prop
  | none, .ok _ => True
  | some c, .error c' => c = c'
  | _, _ => False

/-- A check and the validator's test for it, in front of what agrees already. -/
theorem AgreesWith.check {failed : Bool} {test : Prop} [Decidable test] {c : Status}
    {cs : List (Bool × Status)} {e : Except Status View} (same : test ↔ failed = false)
    (rest : AgreesWith (firstFailure cs) e) :
    AgreesWith (firstFailure ((failed, c) :: cs)) (if test then .error c else e) := by
  cases failed with
  | true => rwa [if_neg (by simp [same])]
  | false => rw [if_pos (same.2 rfl)]; rfl

/-- The EtherType is IPv4's when its two bytes are (R392). -/
theorem half16_eq_etherType_iff (rx : Nat → Byte) (i : Nat) :
    half16 rx i = 0x0800 ↔ rx i = 0x08 ∧ rx (i + 1) = 0x00 := by
  have low := (rx (i + 1)).isLt
  rw [← BitVec.toNat_inj, ← BitVec.toNat_inj, ← BitVec.toNat_inj, half16_toNat]
  change _ = 2048 ↔ _ = 8 ∧ _ = 0
  omega

theorem frameChecks_agree (len : Nat) (rx : Nat → Byte) :
    AgreesWith (firstFailure (frameChecks len rx)) (frameView len rx) := by
  unfold frameView parseIp parseTcp
  dsimp only
  simp only [lowNibble_eq_mod, highNibble_eq_div, half16_toNat]
  refine .check ?_ (.check ?_ (.check ?_ (.check ?_ (.check ?_ (.check ?_ (.check ?_ (.check ?_ trivial)))))))
  · simp; omega
  · rw [ne_eq, half16_eq_etherType_iff]
    simp
  · simp
  · simp; omega
  · simp; omega
  · simp
  · simp
  · simp; omega

/-- Settles O23: the validator makes the eight tests in the order of the table. -/
theorem firstFailedCheckGivesStatus : Obligations.FirstFailedCheckGivesStatus := by
  unfold Obligations.FirstFailedCheckGivesStatus
  intro len rx
  have agree := frameChecks_agree len rx
  cases checks : firstFailure (frameChecks len rx) with
  | none =>
    cases parse : frameView len rx with
    | ok v => simp
    | error c => simp [checks, parse, AgreesWith] at agree
  | some c =>
    cases parse : frameView len rx with
    | ok v => simp [checks, parse, AgreesWith] at agree
    | error c' =>
      have same : c = c' := by simpa [checks, parse, AgreesWith] using agree
      simp [same]

/-! The frames that are parsed. -/

/-- A frame that passes every check, in numbers. -/
structure GoodFrame (len : Nat) (rx : Nat → Byte) (ihl total offset : Nat) : Prop where
  length : 4 ≤ len ∧ len ≤ Config.pRxMax
  etherType : half16 rx 2 = 0x0800
  room : 24 ≤ len
  version : highNibble (rx 4) = 4
  ihl_eq : lowNibble (rx 4) = ihl
  header : 5 ≤ ihl ∧ 4 + 4 * ihl ≤ len
  total_eq : (half16 rx 6).toNat = total
  extent : 4 * ihl ≤ total ∧ 4 + total ≤ len
  protocol : rx 13 = 6
  tcpHeader : 20 ≤ total - 4 * ihl
  offset_eq : highNibble (rx (4 + 4 * ihl + 12)) = offset
  tcpExtent : 5 ≤ offset ∧ 4 * offset ≤ total - 4 * ihl

/-- The validator answers a view exactly on a good frame, and which. -/
theorem frameView_eq_ok_iff (len : Nat) (rx : Nat → Byte) (v : View) :
    frameView len rx = .ok v ↔
      ∃ ihl total offset, GoodFrame len rx ihl total offset ∧
        v = viewOf rx (4 * ihl) total (4 * offset) := by
  constructor
  · intro parsed
    unfold frameView parseIp parseTcp at parsed
    dsimp only at parsed
    split_ifs at parsed with length etherType room header extent protocol tcpHeader offset
    push Not at length etherType header extent protocol offset
    exact ⟨_, _, _, ⟨length, etherType, by omega, header.1, rfl, header.2, rfl, extent, protocol,
      by omega, rfl, offset⟩, (Except.ok.inj parsed).symm⟩
  · rintro ⟨ihl, total, offset, good, rfl⟩
    obtain ⟨length, etherType, room, version, rfl, header, rfl, extent, protocol, tcpHeader, rfl, tcpExtent⟩ :=
      good
    rw [frameView, if_neg (by omega), if_neg (not_not.2 etherType), parseIp, if_neg (by omega)]
    dsimp only
    rw [if_neg (by omega), if_neg (by omega), if_neg (not_not.2 protocol), parseTcp, if_neg (by omega)]
    dsimp only
    rw [if_neg (by omega)]

/-- A longer RXLEN, up to the buffer's size, makes a good frame no worse: what is past the datagram is padding. -/
theorem GoodFrame.padded {len len' : Nat} {rx : Nat → Byte} {ihl total offset : Nat}
    (good : GoodFrame len rx ihl total offset) (longer : len ≤ len') (fits : len' ≤ Config.pRxMax) :
    GoodFrame len' rx ihl total offset :=
  { good with
    length := ⟨good.length.1.trans longer, fits⟩
    room := good.room.trans longer
    header := ⟨good.header.1, good.header.2.trans longer⟩
    extent := ⟨good.extent.1, good.extent.2.trans longer⟩ }

/-- The bounds of the fields that the payload extent is made of. -/
theorem GoodFrame.bounds {len : Nat} {rx : Nat → Byte} {ihl total offset : Nat}
    (good : GoodFrame len rx ihl total offset) : ihl < 16 ∧ total < 65536 ∧ offset < 16 :=
  ⟨good.ihl_eq ▸ BitVec.isLt _, good.total_eq ▸ BitVec.isLt _, good.offset_eq ▸ BitVec.isLt _⟩

/-- The payload extent of a good frame (R397), as numbers: none of the three fields wraps. -/
theorem GoodFrame.viewOf_extent {len : Nat} {rx : Nat → Byte} {ihl total offset : Nat}
    (good : GoodFrame len rx ihl total offset) :
    let v := viewOf rx (4 * ihl) total (4 * offset)
    v.plen.toNat = total - 4 * ihl ∧ v.dlen.toNat = total - 4 * ihl - 4 * offset ∧
      v.doff.toNat = 4 + 4 * ihl + 4 * offset := by
  obtain ⟨ihlSmall, totalSmall, offsetSmall⟩ := good.bounds
  simp only [viewOf, BitVec.toNat_ofNat]
  omega

/-- Settles O24: by the view of a good frame, field by field. -/
theorem parsedViewFields : Obligations.ParsedViewFields := by
  unfold Obligations.ParsedViewFields
  intro len rx v parsed
  obtain ⟨ihl, total, offset, good, rfl⟩ := (frameView_eq_ok_iff len rx v).1 parsed
  have ihlByte := good.ihl_eq
  have totalBytes := good.total_eq
  have offsetByte := good.offset_eq
  obtain ⟨plen, dlen, doff⟩ := good.viewOf_extent
  obtain ⟨inside, fits⟩ := good.extent
  obtain ⟨-, tcpFits⟩ := good.tcpExtent
  rw [lowNibble_eq_mod] at ihlByte
  rw [half16_toNat] at totalBytes
  rw [highNibble_eq_div] at offsetByte
  simp only [ihlByte, totalBytes, offsetByte]
  refine ⟨⟨by omega, by omega, by omega, by omega, fits⟩, ?fields, fun len' longer short => ?padded⟩
  case fields =>
    simp only [viewOf, word32_toNat, half16_toNat]
    simp
  case padded => exact (frameView_eq_ok_iff len' rx _).2 ⟨ihl, total, offset, good.padded longer short, rfl⟩

/-! The bytes the validator reads. -/

/-- A TCP header that the datagram has no room for is rejected unread (check 7). -/
theorem parseTcp_short (rx : Nat → Byte) (hlen tl : Nat) (short : tl - hlen < 20) :
    parseTcp rx hlen tl = .error .malformed := by
  rw [parseTcp, if_pos short]

/-- The checks of the IPv4 header and those behind it read the frame's own bytes only. -/
theorem parseIp_congr {len : Nat} {rx rx' : Nat → Byte} (same : ∀ i, i < len → rx i = rx' i) :
    parseIp len rx = parseIp len rx' := by
  by_cases short : len < 24
  · rw [parseIp, parseIp, if_pos short, if_pos short]
  have ip : SameIpFields rx rx' :=
    .of_bytes (fun i header => same i (by simp at header; omega)) (fun i _ last => same i (by omega))
  by_cases room : 4 + 4 * lowNibble (rx 4) + 20 ≤ len
  · have tcp : SameTcpFields rx rx' (4 * lowNibble (rx 4)) :=
      .of_bytes (fun i _ last => same i (by omega)) (by rw [same _ (by omega)])
        (fun i _ last => same i (by omega))
    exact ip.parseIp_eq tcp len
  · simp only [parseIp, ← ip.versionIhl, ← ip.totalLength, ← ip.protocol]
    split_ifs
    · rfl
    · rfl
    · rfl
    · rw [parseTcp_short _ _ _ (by omega), parseTcp_short _ _ _ (by omega)]

/-- Settles O26: below the frame's length the bytes agree, and each check stands behind the ones that make room for
what it reads. -/
theorem parseReadsOnlyTheFrame : Obligations.ParseReadsOnlyTheFrame := by
  unfold Obligations.ParseReadsOnlyTheFrame
  intro len rx rx' same
  by_cases badLength : len < 4 ∨ len > Config.pRxMax
  · rw [frameView, frameView, if_pos badLength, if_pos badLength]
  · rw [frameView, frameView, parseIp_congr same, half16, half16, same 2 (by omega), same (2 + 1) (by omega)]

end Sys2Proof.Machine
end

section
/-! PROOF. EMIT: the fields of the datagram as they lie in TXBUF, all that it writes, and the Internet checksum by
arithmetic, with the verification of both checksums of every emitted datagram (43_emit.md sections 2 to 4). -/

namespace Sys2Proof.Machine

/-- Settles O33: the bookkeeping writes two registers of the TCB group, and the datagram lies in TXBUF. -/
theorem emitWritesNothingElse : Obligations.EmitWritesNothingElse := by
  unfold Obligations.EmitWritesNothingElse
  intro s
  have sent : emittedInto s (emit s) s.tcb := emittedInto_of_buf s (emit s) s.tcb (by simp) (by simp)
  refine ⟨(emit s).tcb.sndNxt, (emit s).tcb.tplFlags, (emit s).buf, ?_, sent⟩
  rw [emit_tcb, emit_buf]
  conv_lhs => rw [emit_eq, Tcb.afterEmission_eq, datagramLen_eq]
  rfl

/-! Big-endian bytes. -/

/-- A byte of a number. -/
theorem extractLsb'_toNat_div {w : Nat} (x : BitVec w) (k : Nat) :
    (x.extractLsb' k 8).toNat = x.toNat / 2 ^ k % 256 := by
  rw [BitVec.extractLsb'_toNat, Nat.shiftRight_eq_div_pow]

theorem halfBytes_toNat (h : Half) :
    (h.extractLsb' 8 8).toNat * 256 + (h.extractLsb' 0 8).toNat = h.toNat := by
  have small := h.isLt
  simp only [extractLsb'_toNat_div]
  omega

theorem wordBytes_high_toNat (w : Word) :
    (w.extractLsb' 24 8).toNat * 256 + (w.extractLsb' 16 8).toNat = w.toNat / 65536 := by
  have small := w.isLt
  simp only [extractLsb'_toNat_div]
  omega

theorem wordBytes_low_toNat (w : Word) :
    (w.extractLsb' 8 8).toNat * 256 + (w.extractLsb' 0 8).toNat = w.toNat % 65536 := by
  simp only [extractLsb'_toNat_div]
  omega

/-! The datagram in TXBUF. -/

/-- The TXBUF bytes after an emission are the datagram's. -/
theorem emit_bufByte (s : State) (i : Nat) (b : Byte)
    (sent : (datagram 40 Config.pTtl s.tcb)[i]? = some b) : (emit s).bufByte (0x800 + i) = b := by
  have inside : i < 40 := by
    simpa using (List.getElem?_eq_some_iff.1 sent).1
  have stored := (emittedInto_of_buf s (emit s) s.tcb (by simp) (by simp)).1 i inside
  exact Option.some.inj (stored.trans sent)

/-- Two bytes of TXBUF in a row, as a number. -/
theorem emit_pair (s : State) (i : Nat) (high low : Byte)
    (first : (datagram 40 Config.pTtl s.tcb)[i]? = some high)
    (second : (datagram 40 Config.pTtl s.tcb)[i + 1]? = some low) :
    ((emit s).bufByte (0x800 + i)).toNat * 256 + ((emit s).bufByte (0x800 + i + 1)).toNat =
      high.toNat * 256 + low.toNat := by
  rw [emit_bufByte s i high first, Nat.add_assoc, emit_bufByte s (i + 1) low second]

/-- A 16-bit field of the datagram, in TXBUF. -/
theorem emit_half (s : State) (i : Nat) (h : Half)
    (high : (datagram 40 Config.pTtl s.tcb)[i]? = some (h.extractLsb' 8 8))
    (low : (datagram 40 Config.pTtl s.tcb)[i + 1]? = some (h.extractLsb' 0 8)) :
    ((emit s).bufByte (0x800 + i)).toNat * 256 + ((emit s).bufByte (0x800 + i + 1)).toNat = h.toNat :=
  (emit_pair s i _ _ high low).trans (halfBytes_toNat h)

/-- The high half of a 32-bit field of the datagram, in TXBUF. -/
theorem emit_wordHigh (s : State) (i : Nat) (w : Word)
    (first : (datagram 40 Config.pTtl s.tcb)[i]? = some (w.extractLsb' 24 8))
    (second : (datagram 40 Config.pTtl s.tcb)[i + 1]? = some (w.extractLsb' 16 8)) :
    ((emit s).bufByte (0x800 + i)).toNat * 256 + ((emit s).bufByte (0x800 + i + 1)).toNat =
      w.toNat / 65536 :=
  (emit_pair s i _ _ first second).trans (wordBytes_high_toNat w)

/-- The low half of a 32-bit field of the datagram, in TXBUF. -/
theorem emit_wordLow (s : State) (i : Nat) (w : Word)
    (third : (datagram 40 Config.pTtl s.tcb)[i]? = some (w.extractLsb' 8 8))
    (fourth : (datagram 40 Config.pTtl s.tcb)[i + 1]? = some (w.extractLsb' 0 8)) :
    ((emit s).bufByte (0x800 + i)).toNat * 256 + ((emit s).bufByte (0x800 + i + 1)).toNat =
      w.toNat % 65536 :=
  (emit_pair s i _ _ third fourth).trans (wordBytes_low_toNat w)

/-- A number from its two halves. -/
theorem word_of_halves (w : Word) {high low : Nat} (h : high = w.toNat / 65536) (l : low = w.toNat % 65536) :
    high * 65536 + low = w.toNat := by
  omega

/-- Settles O30: each byte is looked up in the datagram, and the fields are put together from their bytes. -/
theorem emittedHeaderFields : Obligations.EmittedHeaderFields := by
  unfold Obligations.EmittedHeaderFields
  intro s tx be16 be32
  have word (i : Nat) (w : Word) (high : be16 (0x800 + i) = w.toNat / 65536)
      (low : be16 (0x800 + i + 2) = w.toNat % 65536) : be32 (0x800 + i) = w.toNat :=
    word_of_halves w high low
  refine ⟨⟨emit_bufByte s 0 _ rfl, emit_bufByte s 1 _ rfl, emit_half s 2 40 rfl rfl, emit_half s 4 0 rfl rfl,
      emit_half s 6 0 rfl rfl, emit_bufByte s 8 _ rfl, emit_bufByte s 9 _ rfl, ?laddr, ?raddr⟩,
    emit_wordHigh s 20 _ rfl rfl, emit_wordLow s 22 _ rfl rfl, ?seq, ?ack, emit_bufByte s 32 _ rfl,
    emit_bufByte s 33 _ rfl, emit_half s 34 _ rfl rfl, emit_half s 38 0 rfl rfl⟩
  case laddr => exact word 12 _ (emit_wordHigh s 12 _ rfl rfl) (emit_wordLow s 14 _ rfl rfl)
  case raddr => exact word 16 _ (emit_wordHigh s 16 _ rfl rfl) (emit_wordLow s 18 _ rfl rfl)
  case seq => exact word 24 _ (emit_wordHigh s 24 _ rfl rfl) (emit_wordLow s 26 _ rfl rfl)
  case ack => exact word 28 _ (emit_wordHigh s 28 _ rfl rfl) (emit_wordLow s 30 _ rfl rfl)

/-! The Internet checksum (R316). -/

/-- The running sum is the word sum with its carries folded in: it stays in 16 bits, keeps the sum modulo 65535, and
is 0 only if nothing has been added. -/
theorem csumLoop_spec (s : Nat) (bs : List Byte) (small : s ≤ 65535) :
    csumLoop s bs ≤ 65535 ∧ csumLoop s bs % 65535 = (s + wordSum bs) % 65535 ∧
      (csumLoop s bs = 0 ↔ s + wordSum bs = 0) := by
  induction s, bs using csumLoop.induct with
  | case1 s => simpa [csumLoop, wordSum] using small
  | case2 s b =>
    have byte := b.isLt
    simpa [csumLoop, wordSum] using endAround_spec (s + b.toNat * 256) (by omega)
  | case3 s b c bs ih =>
    have high := b.isLt
    have low := c.isLt
    obtain ⟨folded, sameMod, zero⟩ := endAround_spec (s + (b.toNat * 256 + c.toNat)) (by omega)
    obtain ⟨bound, rest, restZero⟩ := ih folded
    rw [csumLoop, wordSum]
    refine ⟨bound, ?_, ?_⟩
    · rw [rest]
      omega
    · rw [restZero]
      omega

/-- The checksum as a number: what the folded sum lacks to 65535. -/
theorem csum_toNat (bs : List Byte) : (csum bs).toNat = 65535 - csumLoop 0 bs := by
  obtain ⟨bound, -, -⟩ := csumLoop_spec 0 bs (by decide)
  rw [csum, BitVec.toNat_not, BitVec.toNat_ofNat]
  omega

theorem wordSum_add_csum (bs : List Byte) : (wordSum bs + (csum bs).toNat) % 65535 = 0 := by
  obtain ⟨bound, sameMod, -⟩ := csumLoop_spec 0 bs (by decide)
  rw [csum_toNat]
  omega

theorem csum_eq_ones_iff (bs : List Byte) : csum bs = 0xFFFF ↔ wordSum bs = 0 := by
  obtain ⟨bound, -, zero⟩ := csumLoop_spec 0 bs (by decide)
  rw [← BitVec.toNat_inj, csum_toNat]
  change _ = 65535 ↔ _
  omega

/-- A checksum verifies on words that add up to a multiple of 65535 other than 0. -/
theorem csum_eq_zero (bs : List Byte) (multiple : wordSum bs % 65535 = 0) (positive : wordSum bs ≠ 0) :
    csum bs = 0 := by
  obtain ⟨bound, sameMod, zero⟩ := csumLoop_spec 0 bs (by decide)
  rw [← BitVec.toNat_inj, csum_toNat]
  change _ = 0
  omega

/-! The word sums of the two headers (R313, R315, R317). -/

theorem wordSum_halfBytes (h : Half) (bs : List Byte) : wordSum (halfBytes h ++ bs) = h.toNat + wordSum bs := by
  rw [halfBytes, List.cons_append, List.cons_append, List.nil_append, wordSum, halfBytes_toNat]

theorem wordSum_wordBytes (w : Word) (bs : List Byte) :
    wordSum (wordBytes w ++ bs) = w.toNat / 65536 + w.toNat % 65536 + wordSum bs := by
  simp only [wordBytes, List.cons_append, List.nil_append, wordSum, wordBytes_high_toNat, wordBytes_low_toNat,
    Nat.add_assoc]

theorem wordSum_pair (b c : Byte) (bs : List Byte) :
    wordSum ([b, c] ++ bs) = b.toNat * 256 + c.toNat + wordSum bs := rfl

/-- The checksum field adds its value to the sum of the IPv4 header, which is not 0 without it. -/
theorem wordSum_ipv4Header (n : Nat) (ttl : Byte) (t : Tcb) (c : Half) :
    wordSum (ipv4Header n ttl t c) = wordSum (ipv4Header n ttl t 0) + c.toNat ∧
      wordSum (ipv4Header n ttl t 0) ≠ 0 := by
  have first : (0x45 : Byte).toNat = 0x45 := rfl
  have zero : (0 : Half).toNat = 0 := rfl
  rw [ipv4Header, ipv4Header, ← List.append_nil (wordBytes t.tplRaddr)]
  simp only [List.append_assoc, wordSum_pair, wordSum_halfBytes, wordSum_wordBytes, first, zero]
  omega

/-- The same for the TCP header. -/
theorem wordSum_tcpHeader (t : Tcb) (c : Half) (bs : List Byte) :
    wordSum (tcpHeader t c ++ bs) = wordSum (tcpHeader t 0 ++ bs) + c.toNat := by
  have zero : (0 : Half).toNat = 0 := rfl
  rw [tcpHeader, tcpHeader]
  simp only [List.append_assoc, wordSum_pair, wordSum_halfBytes, wordSum_wordBytes, zero]
  omega

/-- What the pseudo-header adds to the sum of the TCP header behind it. -/
theorem wordSum_pseudoHeader (t : Tcb) (bs : List Byte) :
    wordSum (pseudoHeader t 20 ++ bs) =
      t.tplLaddr.toNat / 65536 + t.tplLaddr.toNat % 65536
        + t.tplRaddr.toNat / 65536 + t.tplRaddr.toNat % 65536 + 6 + 20 + wordSum bs := by
  have protocol : (0 : Byte).toNat * 256 + (6 : Byte).toNat = 6 := rfl
  have length : (BitVec.ofNat 16 20).toNat = 20 := rfl
  rw [pseudoHeader]
  simp only [List.append_assoc, wordSum_pair, wordSum_halfBytes, wordSum_wordBytes, protocol, length]
  omega

/-! Both headers of an emitted datagram. -/

theorem datagram_take (ttl : Byte) (t : Tcb) :
    (datagram 40 ttl t).take 20 = ipv4Header 40 ttl t (csum (ipv4Header 40 ttl t 0)) := by
  rw [datagram_forty, List.take_left' (ipv4Header_length _ _ _ _)]

theorem datagram_drop (ttl : Byte) (t : Tcb) :
    (datagram 40 ttl t).drop 20 = tcpHeader t (csum (pseudoHeader t 20 ++ tcpHeader t 0)) := by
  rw [datagram_forty, List.drop_left' (ipv4Header_length _ _ _ _)]

/-- Settles O31: a checksum field added to a sum without it makes a multiple of 65535, and neither sum is 0. -/
theorem emittedChecksumsVerify : Obligations.EmittedChecksumsVerify := by
  unfold Obligations.EmittedChecksumsVerify
  refine ⟨fun bs => ⟨wordSum_add_csum bs, csum_eq_ones_iff bs⟩, fun ttl t => ?_⟩
  rw [datagram_take, datagram_drop]
  have ip := wordSum_add_csum (ipv4Header 40 ttl t 0)
  have tcp := wordSum_add_csum (pseudoHeader t 20 ++ tcpHeader t 0)
  generalize csum (ipv4Header 40 ttl t 0) = ipSum at ip ⊢
  generalize csum (pseudoHeader t 20 ++ tcpHeader t 0) = tcpSum at tcp ⊢
  obtain ⟨ipField, ipPositive⟩ := wordSum_ipv4Header 40 ttl t ipSum
  have tcpField := wordSum_tcpHeader t tcpSum []
  rw [List.append_nil, List.append_nil] at tcpField
  have pseudo := wordSum_pseudoHeader t (tcpHeader t 0)
  have pseudoField := wordSum_pseudoHeader t (tcpHeader t tcpSum)
  exact ⟨⟨csum_eq_zero _ (by omega) (by omega), csum_eq_zero _ (by omega) (by omega)⟩, by omega, by omega⟩

end Sys2Proof.Machine
end

section
/-! PROOF. The FIN that CLOSE sends, and SEGMENT on an acceptable segment: the stages S4 to S7 end in the state that
the row of the transition table gives (42_segment.md sections 3 and 4). -/

namespace Sys2Proof.Machine

/-! Sending FIN. -/

/-- Sending FIN from a template of ACK alone: FIN+ACK goes out, SND_NXT counts it, and ACK alone is left. -/
theorem sendFin_ack (s : State) (ack : s.tcb.tplFlags = 0x10) :
    sendFin s =
      { s with
        buf := s.buf.setBytes txBase (datagram 40 Config.pTtl { s.tcb with tplFlags := 0x11 })
        txlen := 40
        txvalid := true
        tcb := { s.tcb with state := .finWait1, sndNxt := s.tcb.sndNxt + 1 } } := by
  have finAck : s.tcb.tplFlags ||| 0x01 = 0x11 := by rw [ack]; rfl
  rw [sendFin_eq, finAck, emit_eq, State.withTcb_tcb, Tcb.afterEmission_finAck _ rfl, datagramLen_eq]
  simp only [State.enter, State.withTcb, ← ack]
  rfl

/-- Settles O37: by the one emission, of a template that the invariant makes ACK alone. -/
theorem closeInEstablishedSendsFin : Obligations.CloseInEstablishedSendsFin := by
  unfold Obligations.CloseInEstablishedSendsFin
  intro s inv established
  have ack : s.tcb.tplFlags = 0x10 := inv.flags (by simp [established])
  have sends : closeBody s.startCommand = .go (sendFin s.startCommand) := by
    simp [closeBody, established]
  have sent := sendFin_ack s.startCommand ack
  refine ⟨sendFin s.startCommand, ?run, ?effect, emittedInto_of_buf _ _ _ ?_ ?_⟩
  case run =>
    rw [exec_close, sends, Flow.finish_go, State.endCommand_ok _ (by simp)]
  case effect => simp [sent]
  all_goals simp [sent]

/-! What an acceptable ACK says about the send space (42_segment.md R266). -/

/-- An acceptable ACK lies from SND_UNA to SND_NXT. -/
theorem ackOk_le {t : Tcb} {v : View} (bounded : (t.sndNxt - t.sndUna).toNat ≤ 2)
    (ackok : ackOk t v = true) : (v.ack - t.sndUna).toNat ≤ (t.sndNxt - t.sndUna).toNat := by
  have range := (Bool.and_eq_true_iff.1 ackok).2
  have last : t.sndNxt + 1 = t.sndUna + BitVec.ofNat 32 ((t.sndNxt - t.sndUna).toNat + 1) := by
    bv_omega
  rw [last, between_pred_add _ _ _ (by omega)] at range
  omega

/-- The bound of 10_state.md R59, from the invariant. -/
theorem Tcb.Inv.sendSpace_le_two {t : Tcb} (inv : t.Inv) (opened : t.state ≠ .closed) :
    (t.sndNxt - t.sndUna).toNat ≤ 2 := by
  have space := inv.sendSpace
  unfold Tcb.sendSpaceOk at space
  cases state : t.state <;> simp only [state] at space
  case closed => exact absurd state opened
  all_goals
    obtain ⟨una, nxt⟩ := space
    bv_omega

/-- SND_UNA after stage S5: `ackn` of an acceptable ACK in any state but TimeWait (R267). -/
def State.ackedUna (s : State) : Word :=
  if ackOk s.tcb s.view = true ∧ s.tcb.state ≠ .timeWait then s.view.ack else s.tcb.sndUna

theorem State.ackedUna_of_not (s : State) (refused : ackOk s.tcb s.view = false) : s.ackedUna = s.tcb.sndUna := by
  simp [State.ackedUna, refused]

theorem State.ackedUna_of_ackOk (s : State) (ackok : ackOk s.tcb s.view = true)
    (notWaiting : s.tcb.state ≠ .timeWait) : s.ackedUna = s.view.ack := by
  simp [State.ackedUna, ackok, notWaiting]

/-- Before FinWait1 one number has been sent, so no acceptable ACK reaches `iss +w 2`. -/
theorem ack_ne_of_beforeFin {t : Tcb} {v : View} (inv : t.Inv)
    (beforeFin : t.state = .synReceived ∨ t.state = .established) (ackok : ackOk t v = true) :
    v.ack ≠ t.sndIss + 2 := by
  have range := ackOk_le (inv.sendSpace_le_two (by rintro h; simp [h] at beforeFin)) ackok
  have space := inv.sendSpace
  obtain state | state := beforeFin
  all_goals
    simp only [Tcb.sendSpaceOk, state] at space
    obtain ⟨una, nxt⟩ := space
    bv_omega

/-- In FinWait1 the FIN is not acknowledged yet. -/
theorem sndUna_ne_of_finWait1 {t : Tcb} (inv : t.Inv) (state : t.state = .finWait1) :
    t.sndUna ≠ t.sndIss + 2 := by
  have space := inv.sendSpace
  simp only [Tcb.sendSpaceOk, state] at space
  obtain ⟨una, nxt⟩ := space
  bv_omega

/-! The row of the transition table (R282). -/

/-- The row that a state's segment falls into, for a FIN flag. -/
def State.row (s : State) (fin : Bool) : SegmentRow :=
  segmentRow s.tcb.state (ackOk s.tcb s.view) s.autoclose (s.view.ack == s.tcb.sndIss + 2) fin

/-- A FIN flag acts on the row without it as stage S7 does (R269). -/
theorem segmentRow_fin (st : TcbState) (ackok autoclose ack2 : Bool) (opened : st ≠ .closed) :
    segmentRow st ackok autoclose ack2 true =
      let row := segmentRow st ackok autoclose ack2 false
      if row.state = .finWait2 then ⟨.timeWait, some 0x10, .ok⟩
      else ⟨row.state, row.emits, .protocolViolation⟩ := by
  cases st with
  | closed => exact absurd rfl opened
  | _ =>
    revert ackok autoclose ack2
    decide

/-- Without a FIN flag the row is one of stages S4 to S6: it ends OK, and it emits a FIN, entering FinWait1, or
nothing. -/
theorem segmentRow_noFin (st : TcbState) (ackok autoclose ack2 : Bool) (opened : st ≠ .closed) :
    let row := segmentRow st ackok autoclose ack2 false
    row.status = .ok ∧ (row.emits = none ∨ row.emits = some 0x11 ∧ row.state = .finWait1) := by
  cases st with
  | closed => exact absurd rfl opened
  | _ =>
    revert ackok autoclose ack2
    decide

/-- The state a row leads to: STATE, SND_UNA, SND_NXT and the emission. -/
def State.afterRow (s : State) (row : SegmentRow) : State :=
  { s with
    buf :=
      match row.emits with
      | none => s.buf
      | some fl => s.buf.setBytes txBase (datagram 40 Config.pTtl { s.tcb with tplFlags := fl })
    txlen := if row.emits.isSome then 40 else s.txlen
    txvalid := row.emits.isSome || s.txvalid
    tcb := { s.tcb with
      state := row.state
      sndUna := s.ackedUna
      sndNxt := if row.emits = some 0x11 then s.tcb.sndNxt + 1 else s.tcb.sndNxt } }

/-- A row that emits nothing writes STATE and SND_UNA. -/
theorem State.afterRow_quiet (s : State) (st : TcbState) (c : Status) :
    s.afterRow ⟨st, none, c⟩ = s.withTcb { s.tcb with state := st, sndUna := s.ackedUna } := by
  simp [State.afterRow, State.withTcb]

/-- A row that emits FIN+ACK is stage S5's FIN. -/
theorem State.afterRow_finAck (s : State) (c : Status) (ack : s.tcb.tplFlags = 0x10) (st : TcbState) :
    s.afterRow ⟨.finWait1, some 0x11, c⟩ =
      sendFin (s.withTcb { s.tcb with state := st, sndUna := s.ackedUna }) := by
  have acked : (s.withTcb { s.tcb with state := st, sndUna := s.ackedUna }).tcb.tplFlags = 0x10 := ack
  rw [sendFin_ack _ acked]
  rfl

/-! Stages S4 to S6 follow the row without FIN, whatever the FIN flag is. -/

theorem stageFinAcked_ne (s : State) (h : s.tcb.state = .finWait1 → s.tcb.sndUna ≠ s.tcb.sndIss + 2) :
    stageFinAcked s = s := by
  rw [stageFinAcked, if_neg]
  exact fun ⟨state, una⟩ => h state una

/-- Stage S5 in Established, where AUTOCLOSE decides. -/
theorem stageAck_established (s : State) (state : s.tcb.state = .established) :
    stageAck true s =
      let acked := s.withTcb { s.tcb with sndUna := s.view.ack }
      if s.autoclose then sendFin acked else acked := by
  simp [stageAck_eq, state, TcbState.takesAck]

/-- Stage S5 where an ACK only moves SND_UNA. -/
theorem stageAck_finWait (s : State) (state : s.tcb.state = .finWait1 ∨ s.tcb.state = .finWait2) :
    stageAck true s = s.withTcb { s.tcb with sndUna := s.view.ack } := by
  obtain state | state := state <;> simp [stageAck_eq, state, TcbState.takesAck]

/-- Stage S4 outside SynReceived. -/
theorem stageEstablish_ne (s : State) (ackok : Bool) (state : s.tcb.state ≠ .synReceived) :
    stageEstablish ackok s = s := by
  simp [stageEstablish, state]

/-- Stages S4 to S6, in turn. -/
def stagesAck (s : State) : State :=
  stageFinAcked (stageAck (ackOk s.tcb s.view) (stageEstablish (ackOk s.tcb s.view) s))

section
variable (s : State)

theorem stagesAck_refused (inv : s.tcb.Inv) (opened : s.tcb.state ≠ .closed)
    (refused : ackOk s.tcb s.view = false) : stagesAck s = s.afterRow (s.row false) := by
  have row : s.row false = ⟨s.tcb.state, none, .ok⟩ := by
    rw [State.row, refused]
    cases state : s.tcb.state with
    | closed => exact absurd state opened
    | _ => rfl
  have noEstablish : stageEstablish false s = s := by simp [stageEstablish]
  have noAck : stageAck false s = s := by simp [stageAck]
  rw [stagesAck, refused, noEstablish, noAck, stageFinAcked_ne s (sndUna_ne_of_finWait1 inv), row,
    State.afterRow_quiet, s.ackedUna_of_not refused]
  rfl

/-- Before FinWait1 an acceptable ACK leads to Established, and AUTOCLOSE from there to FinWait1. -/
theorem stagesAck_beforeFin (inv : s.tcb.Inv)
    (state : s.tcb.state = .synReceived ∨ s.tcb.state = .established) (ackok : ackOk s.tcb s.view = true) :
    stagesAck s = s.afterRow (s.row false) := by
  have opened : s.tcb.state ≠ .closed := by rintro closed; simp [closed] at state
  have una : s.ackedUna = s.view.ack :=
    s.ackedUna_of_ackOk ackok (by rintro waits; simp [waits] at state)
  have notAll : s.view.ack ≠ s.tcb.sndIss + 2 := ack_ne_of_beforeFin inv state ackok
  have established : stageEstablish true s = s.withTcb { s.tcb with state := .established } := by
    obtain state | state := state
    · simp [stageEstablish, state, State.enter]
    · rw [stageEstablish_ne s true (by simp [state]), ← state]
      rfl
  have row : s.row false =
      if s.autoclose then ⟨.finWait1, some 0x11, .ok⟩ else ⟨.established, none, .ok⟩ := by
    rw [State.row, ackok]
    obtain state | state := state <;> cases s.autoclose <;> simp [state, segmentRow]
  have acked : stageAck true (stageEstablish true s) =
      let ackedState := s.withTcb { s.tcb with state := .established, sndUna := s.ackedUna }
      if s.autoclose then sendFin ackedState else ackedState := by
    rw [established, stageAck_established _ rfl, una]
    rfl
  rw [stagesAck, ackok, acked, row]
  cases auto : s.autoclose with
  | false =>
    simp only [Bool.false_eq_true, if_false]
    rw [stageFinAcked_ne _ (by simp), State.afterRow_quiet]
  | true =>
    have flags : s.tcb.tplFlags = 0x10 := inv.flags opened
    simp only [if_true]
    rw [← s.afterRow_finAck .ok flags .established]
    exact stageFinAcked_ne _ fun _ all => notAll (una.symm.trans all)

theorem stagesAck_finWait1 (state : s.tcb.state = .finWait1) (ackok : ackOk s.tcb s.view = true) :
    stagesAck s = s.afterRow (s.row false) := by
  have una : s.ackedUna = s.view.ack := s.ackedUna_of_ackOk ackok (by simp [state])
  rw [stagesAck, ackok, stageEstablish_ne s true (by simp [state]), stageAck_finWait s (.inl state)]
  by_cases all : s.view.ack = s.tcb.sndIss + 2
  · have row : s.row false = ⟨.finWait2, none, .ok⟩ := by simp [State.row, segmentRow, state, ackok, all]
    rw [row, State.afterRow_quiet, una]
    simp [stageFinAcked, state, all, State.enter, State.withTcb]
  · have row : s.row false = ⟨.finWait1, none, .ok⟩ := by
      simpa [State.row, segmentRow, state, ackok] using all
    rw [row, State.afterRow_quiet, una, stageFinAcked_ne _ (fun _ => all), ← state]

theorem stagesAck_finWait2 (state : s.tcb.state = .finWait2) (ackok : ackOk s.tcb s.view = true) :
    stagesAck s = s.afterRow (s.row false) := by
  have una : s.ackedUna = s.view.ack := s.ackedUna_of_ackOk ackok (by simp [state])
  have row : s.row false = ⟨.finWait2, none, .ok⟩ := by simp [State.row, segmentRow, state]
  rw [stagesAck, ackok, stageEstablish_ne s true (by simp [state]), stageAck_finWait s (.inr state),
    stageFinAcked_ne _ (by simp [state]), row, State.afterRow_quiet, una, ← state]

theorem stagesAck_timeWait (state : s.tcb.state = .timeWait) : stagesAck s = s.afterRow (s.row false) := by
  have una : s.ackedUna = s.tcb.sndUna := by simp [State.ackedUna, state]
  have row : s.row false = ⟨.timeWait, none, .ok⟩ := by simp [State.row, segmentRow, state]
  have noAck : stageAck (ackOk s.tcb s.view) s = s := by simp [stageAck, state, TcbState.takesAck]
  rw [stagesAck, stageEstablish_ne s _ (by simp [state]), noAck, stageFinAcked_ne _ (by simp [state]), row,
    State.afterRow_quiet, una, ← state]
  rfl

theorem stagesAck_eq_afterRow (inv : s.tcb.Inv) (opened : s.tcb.state ≠ .closed) :
    stagesAck s = s.afterRow (s.row false) := by
  cases ackok : ackOk s.tcb s.view with
  | false => exact stagesAck_refused s inv opened ackok
  | true =>
    cases state : s.tcb.state with
    | closed => exact absurd state opened
    | synReceived => exact stagesAck_beforeFin s inv (.inl state) ackok
    | established => exact stagesAck_beforeFin s inv (.inr state) ackok
    | finWait1 => exact stagesAck_finWait1 s state ackok
    | finWait2 => exact stagesAck_finWait2 s state ackok
    | timeWait => exact stagesAck_timeWait s state

/-- Stage S7 of a FIN in FinWait2: one ACK. -/
theorem State.afterRow_timeWait (st : TcbState) (c : Status) (ack : s.tcb.tplFlags = 0x10) :
    (emit (s.afterRow ⟨st, none, c⟩)).enter .timeWait = s.afterRow ⟨.timeWait, some 0x10, .ok⟩ := by
  have flags : (s.afterRow ⟨st, none, c⟩).tcb.tplFlags = 0x10 := ack
  have sent : datagram 40 Config.pTtl (s.afterRow ⟨st, none, c⟩).tcb =
      datagram 40 Config.pTtl { s.tcb with tplFlags := 0x10 } :=
    datagram_congr _ _ _ _ rfl rfl rfl rfl rfl rfl ack
  rw [emit_ack _ flags, sent]
  simp [State.afterRow, State.enter, State.withTcb]

/-- The whole cascade follows the row of the table: the state it reaches, and the status it ends with. -/
theorem segmentCascade_follows_row (inv : s.tcb.Inv) (opened : s.tcb.state ≠ .closed) :
    let row := s.row (finFlag s.view.flags)
    (segmentCascade s).held = s.afterRow row ∧ (segmentCascade s).code = row.status := by
  have cascade : segmentCascade s = stageFin (s.afterRow (s.row false)) :=
    congrArg stageFin (stagesAck_eq_afterRow s inv opened)
  have withFin : s.row true = if (s.row false).state = .finWait2 then ⟨.timeWait, some 0x10, .ok⟩
      else ⟨(s.row false).state, (s.row false).emits, .protocolViolation⟩ :=
    segmentRow_fin _ _ _ _ opened
  obtain ⟨ok, emits⟩ : (s.row false).status = .ok ∧
      ((s.row false).emits = none ∨ (s.row false).emits = some 0x11 ∧ (s.row false).state = .finWait1) :=
    segmentRow_noFin _ _ _ _ opened
  have sameView : (s.afterRow (s.row false)).view = s.view := rfl
  have state : (s.afterRow (s.row false)).tcb.state = (s.row false).state := rfl
  obtain ⟨noFin, done⟩ | ⟨fin, two, done⟩ | ⟨fin, notTwo, done⟩ :=
    stageFin_cases (s.afterRow (s.row false))
  · rw [sameView] at noFin
    rw [cascade, done, noFin]
    exact ⟨rfl, ok.symm⟩
  · rw [sameView] at fin
    rw [state] at two
    have quiet : (s.row false).emits = none := by
      obtain quiet | ⟨-, one⟩ := emits
      · exact quiet
      · exact absurd (two.symm.trans one) (by decide)
    have row : s.row false = ⟨.finWait2, none, .ok⟩ := by rw [← two, ← quiet, ← ok]
    rw [cascade, done, fin, withFin, if_pos two, row, Flow.held_go,
      s.afterRow_timeWait _ _ (inv.flags opened)]
    exact ⟨rfl, rfl⟩
  · rw [sameView] at fin
    rw [state] at notTwo
    rw [cascade, done, fin, withFin, if_neg notTwo]
    exact ⟨rfl, rfl⟩

end

end Sys2Proof.Machine
end

section
/-! PROOF. SEGMENT as a whole on an acceptable segment, what each command can do to the TCB group, and the statements
about STATE, the initial sequence numbers and RCV_NXT (10_state.md section 3; 42_segment.md section 4; 44_accept.md
section 3). -/

namespace Sys2Proof.Machine

/-! SEGMENT on an acceptable segment (R263, R264). -/

/-- The state at stage S3's end: the view and the verdict recorded, and RCV_NXT advanced. -/
def State.advanced (s : State) (v : View) : State :=
  stageAdvance (((s.startCommand.withRes false).withView v).recordAcc (segmentAcc s.tcb v))

/-- Stages S0 to S3, and the cascade. -/
theorem exec_segment_accepted (s : State) (v : View) (opened : s.tcb.state ≠ .closed)
    (parsed : s.frame = .ok v) (accepted : (segmentAcc s.tcb v).ok = true) :
    exec .segment s = .next (segmentCascade (s.advanced v)).finish := by
  have cascades : segmentBody ((s.startCommand.withRes false).withView v) = segmentCascade (s.advanced v) := by
    obtain ⟨closed, -⟩ | ⟨-, refused, -⟩ | ⟨-, -, run⟩ :=
      segmentBody_cases ((s.startCommand.withRes false).withView v)
    · exact absurd closed opened
    · exact absurd (refused.symm.trans accepted) (by decide)
    · exact run
  rw [exec_segment_ok s v parsed, cascades]

/-- RCV_NXT has no part in the invariant of a TCB. -/
theorem Tcb.Inv.withRcvNxt {t : Tcb} (inv : t.Inv) (opened : t.state ≠ .closed) (n : Word) :
    ({ t with rcvNxt := n } : Tcb).Inv where
  sendSpace := by
    have space := inv.sendSpace
    unfold Tcb.sendSpaceOk at space ⊢
    cases state : t.state with
    | closed => exact absurd state opened
    | _ => simpa only [state] using space
  flags := inv.flags
  sndUp := inv.sndUp
  sndWl1 := inv.sndWl1
  sndWl2 := inv.sndWl2
  rcvUp := inv.rcvUp

/-- SEGMENT on an acceptable segment ends in the state of the table's row, with the row's status. -/
theorem exec_segment_follows_row (s : State) (v : View) (inv : s.tcb.Inv) (opened : s.tcb.state ≠ .closed)
    (parsed : s.frame = .ok v) (accepted : (segmentAcc s.tcb v).ok = true) :
    let row := (s.advanced v).row (finFlag v.flags)
    exec .segment s =
      .next { (s.advanced v).afterRow row with
        status := row.status, sticky := stickyAfter s.sticky row.status } := by
  have advancedInv : (s.advanced v).tcb.Inv := inv.withRcvNxt opened _
  obtain ⟨held, code⟩ := segmentCascade_follows_row (s.advanced v) advancedInv opened
  have ok : (segmentCascade (s.advanced v)).held.status = .ok := by
    rw [held]
    rfl
  rw [exec_segment_accepted s v opened parsed accepted, Flow.finish_eq _ ok, held, code]
  rfl

/-- Settles O41: the row's outcome at the end of stage S3, whose verdict is that the segment is acceptable. -/
theorem acceptableSegmentFollowsTable : Obligations.AcceptableSegmentFollowsTable := by
  unfold Obligations.AcceptableSegmentFollowsTable
  intro s v inv opened parsed fin a ackok row una accepted
  have rowEq : (s.advanced v).row (finFlag v.flags) = row := rfl
  have acc : (segmentAcc s.tcb v).ok = true := accepted
  have run := exec_segment_follows_row s v inv opened parsed acc
  simp only [rowEq] at run
  refine ⟨_, run, ?effect, fun quiet a => ?quiet, fun fl sent => emittedInto_of_buf _ _ _ ?emitted rfl⟩
  case effect =>
    have sentNow : (row.emits.isSome || (s.advanced v).txvalid) = row.emits.isSome := Bool.or_false _
    have res : (s.advanced v).res = true := accepted
    simp only [State.afterRow, sentNow, res]
    rfl
  case quiet => simp only [State.afterRow, quiet]; rfl
  case emitted => simp only [State.afterRow, sent]; rfl

/-! What each command can do to the TCB group. -/

/-- The TCB group that SYNRCV opens, after its SYN+ACK. -/
def synReceivedTcb (iss : Word) (initWnd : Half) (v : View) : Tcb :=
  { openedTcb iss initWnd v with state := .synReceived, sndNxt := iss + 1, tplFlags := 0x10 }

theorem exec_synrcv_tcb_cases {s t : State} (run : exec .synrcv s = .next t) :
    t.tcb = s.tcb ∨ (s.tcb.state = .closed ∧ ∃ v, t.tcb = synReceivedTcb s.opa s.initWnd v) := by
  obtain ⟨v, -, ended⟩ | ⟨c, -, raised⟩ := execSynrcv_cases s
  · obtain rfl := Host.Outcome.next.inj (ended.symm.trans run)
    obtain ⟨-, busy⟩ | ⟨-, -, notSyn⟩ | ⟨closed, -, opens⟩ := synrcvBody_cases (s.startCommand.withView v)
    · exact .inl (by simp [busy])
    · exact .inl (by simp [notSyn])
    · refine .inr ⟨closed, v, ?_⟩
      rw [opens, Flow.finish_tcb, Flow.held_go, openConnection_eq]
      rfl
  · obtain rfl := Host.Outcome.next.inj (raised.symm.trans run)
    exact .inl (by simp)

theorem exec_close_tcb_cases {s t : State} (inv : s.tcb.Inv) (run : exec .close s = .next t) :
    t.tcb = s.tcb ∨
      (s.tcb.state = .established ∧
        t.tcb = { s.tcb with state := .finWait1, sndNxt := s.tcb.sndNxt + 1 }) := by
  by_cases established : s.tcb.state = .established
  · obtain ⟨t', run', effect, -⟩ := closeInEstablishedSendsFin s inv established
    obtain rfl := Host.Outcome.next.inj (run'.symm.trans run)
    refine .inr ⟨established, ?_⟩
    rw [effect]
  · exact .inl (exec_close_tcb s t established run)

/-- SEGMENT writes the TCB group only where there is a TCB. -/
theorem exec_segment_tcb (s t : State) (closed : s.tcb.state = .closed) (run : exec .segment s = .next t) :
    t.tcb = s.tcb := by
  cases parse : s.frame with
  | error c =>
    obtain rfl := Host.Outcome.next.inj ((exec_segment_error s c parse).symm.trans run)
    simp
  | ok v =>
    obtain rfl := Host.Outcome.next.inj (((closedIgnoresSegmentAndClose s v closed).1 parse).symm.trans run)
    rfl

theorem exec_segment_tcb_cases {s t : State} (inv : s.tcb.Inv) (run : exec .segment s = .next t) :
    t.tcb = s.tcb ∨
      ∃ v, s.tcb.state ≠ .closed ∧
        t.tcb = ((s.advanced v).afterRow ((s.advanced v).row (finFlag v.flags))).tcb := by
  by_cases closed : s.tcb.state = .closed
  · exact .inl (exec_segment_tcb s t closed run)
  cases parse : s.frame with
  | error c =>
    obtain rfl := Host.Outcome.next.inj ((exec_segment_error s c parse).symm.trans run)
    exact .inl (by simp)
  | ok v =>
    cases verdict : (segmentAcc s.tcb v).ok with
    | false =>
      obtain ⟨-, t', run', effect, -⟩ := unacceptableSegmentIsAcked s v inv closed parse verdict
      obtain rfl := Host.Outcome.next.inj (run'.symm.trans run)
      exact .inl (by rw [effect])
    | true =>
      have row := exec_segment_follows_row s v inv closed parse verdict
      obtain rfl := Host.Outcome.next.inj (row.symm.trans run)
      exact .inr ⟨v, closed, rfl⟩

/-- Everything a host event can do to the TCB group: nothing, a reset, or one of the four commands that
write it. -/
theorem perform_tcb_cases {e : HostEvent} {s t : State} (run : perform e s = .next t) :
    t.tcb = s.tcb ∨ (e = .reset ∧ t.tcb = .cleared) ∨
      ∃ w i, i ∈ [Instr.synrcv, .segment, .release, .close] ∧ e = .writeReg 0x00 w ∧ decode w = .ok i ∧
        exec i (s.withCmd w) = .next t := by
  have done := performs e s
  generalize perform e s = answer at done run
  cases done with
  | command w i decoded =>
    by_cases writesTcb : i ∈ [Instr.synrcv, .segment, .release, .close]
    · exact .inr (.inr ⟨w, i, writesTcb, rfl, decoded, run⟩)
    · exact .inl (exec_tcb (s := s.withCmd w) writesTcb run)
  | reset =>
    cases run
    exact .inr (.inl ⟨rfl, rfl⟩)
  | _ =>
    cases run
    exact .inl (by simp [illegalCommand_eq])

/-! STATE. -/

/-- The transitions a row of the table makes. -/
theorem segmentRow_moves (st : TcbState) (ackok autoclose ack2 fin : Bool)
    (moves : (segmentRow st ackok autoclose ack2 fin).state ≠ st) :
    (st, (segmentRow st ackok autoclose ack2 fin).state) ∈
      [(TcbState.synReceived, TcbState.established), (.synReceived, .finWait1),
        (.established, .finWait1), (.finWait1, .finWait2), (.finWait1, .timeWait),
        (.finWait2, .timeWait)] := by
  revert ackok autoclose ack2 fin
  cases st <;> decide

/-- Settles O45: by what each command can do to the TCB group. -/
theorem stateMovesAlongTheTable : Obligations.StateMovesAlongTheTable := by
  unfold Obligations.StateMovesAlongTheTable
  intro s t e inv run moves
  obtain same | ⟨reset, cleared⟩ | ⟨w, i, writesTcb, write, decoded, command⟩ := perform_tcb_cases run
  · exact absurd (congrArg Tcb.state same) moves
  · exact .inl ⟨by rw [cleared]; rfl, .inl reset⟩
  cases i with
  | between | acceptable | parse => simp at writesTcb
  | release =>
    obtain rfl := Host.Outcome.next.inj ((exec_release _).symm.trans command)
    exact .inl ⟨rfl, .inr ⟨w, write, decoded⟩⟩
  | synrcv =>
    obtain same | ⟨closed, v, opened⟩ := exec_synrcv_tcb_cases command
    · exact absurd (congrArg Tcb.state same) moves
    · exact .inr (.inl ⟨closed, by rw [opened]; rfl, w, write, decoded⟩)
  | close =>
    obtain same | ⟨established, sent⟩ := exec_close_tcb_cases (s := s.withCmd w) inv command
    · exact absurd (congrArg Tcb.state same) moves
    · exact .inr (.inr (.inl ⟨established, by rw [sent], w, write, decoded⟩))
  | segment =>
    obtain same | ⟨v, -, follows⟩ := exec_segment_tcb_cases (s := s.withCmd w) inv command
    · exact absurd (congrArg Tcb.state same) moves
    · refine .inr (.inr (.inr ⟨?_, w, write, decoded⟩))
      rw [follows] at moves ⊢
      exact segmentRow_moves _ _ _ _ _ moves

/-! The initial sequence numbers. -/

/-- A command that does not destroy the TCB keeps the registers that are fixed when it is created. -/
theorem exec_fixedRegs {i : Instr} {s t : State} (opened : s.tcb.state ≠ .closed)
    (stillOpen : t.tcb.state ≠ .closed) (run : exec i s = .next t) : t.fixedRegs = s.fixedRegs := by
  cases i with
  | between | acceptable | parse => exact State.fixedRegs_congr (exec_tcb (by simp) run)
  | synrcv => exact State.fixedRegs_congr (exec_synrcv_tcb s t opened run)
  | segment => exact (State.fixedRegs_eq_iff s t).2 (segmentKeepsFixedRegisters s t run)
  | release =>
    obtain rfl := Host.Outcome.next.inj ((exec_release _).symm.trans run)
    exact absurd rfl stillOpen
  | close =>
    obtain rfl := Host.Outcome.next.inj ((exec_close s).symm.trans run)
    rw [State.fixedRegs_congr (Flow.finish_tcb _)]
    obtain ⟨-, ignored⟩ | ⟨-, -, violation⟩ | ⟨-, sends⟩ := closeBody_cases s.startCommand
    · rw [ignored]; rfl
    · rw [violation]; rfl
    · rw [sends, Flow.held_go, sendFin_fixedRegs]; rfl

/-- Settles O51: the two registers are among the fixed ones, and a reset destroys the TCB. -/
theorem initialSequenceNumbersAreFixed : Obligations.InitialSequenceNumbersAreFixed := by
  unfold Obligations.InitialSequenceNumbersAreFixed
  intro s t e opened run stillOpen
  obtain same | ⟨-, cleared⟩ | ⟨w, i, -, -, -, command⟩ := perform_tcb_cases run
  · rw [same]
    exact ⟨rfl, rfl⟩
  · exact absurd (congrArg Tcb.state cleared) stillOpen
  · have fixed := exec_fixedRegs (s := s.withCmd w) opened stillOpen command
    exact ⟨(congrArg Tcb.sndIss fixed :), (congrArg Tcb.rcvIrs fixed :)⟩

/-! RCV_NXT. -/

@[simp] theorem Tcb.afterEmission_rcvNxt (t : Tcb) : t.afterEmission.rcvNxt = t.rcvNxt := by
  rw [Tcb.afterEmission_eq]

@[simp] theorem sendFin_rcvNxt (s : State) : (sendFin s).tcb.rcvNxt = s.tcb.rcvNxt := by
  simp [sendFin]

@[simp] theorem stageEstablish_rcvNxt (ackok : Bool) (s : State) :
    (stageEstablish ackok s).tcb.rcvNxt = s.tcb.rcvNxt := by
  unfold stageEstablish
  split <;> rfl

@[simp] theorem stageAck_rcvNxt (ackok : Bool) (s : State) :
    (stageAck ackok s).tcb.rcvNxt = s.tcb.rcvNxt := by
  rw [stageAck_eq]
  split_ifs <;> simp

@[simp] theorem stageFinAcked_rcvNxt (s : State) : (stageFinAcked s).tcb.rcvNxt = s.tcb.rcvNxt := by
  unfold stageFinAcked
  split <;> rfl

theorem segmentCascade_rcvNxt (s : State) : (segmentCascade s).held.tcb.rcvNxt = s.tcb.rcvNxt := by
  obtain ⟨-, done⟩ | ⟨-, -, done⟩ | ⟨-, -, done⟩ :=
    stageFin_cases (stageFinAcked (stageAck (ackOk s.tcb s.view) (stageEstablish (ackOk s.tcb s.view) s)))
  all_goals
    rw [segmentCascade, done]
    simp

/-- Past stage S3 nothing writes RCV_NXT, the results or the view. -/
theorem exec_segment_accepted_rcvNxt (s t : State) (v : View) (opened : s.tcb.state ≠ .closed)
    (parsed : s.frame = .ok v) (accepted : (segmentAcc s.tcb v).ok = true) (run : exec .segment s = .next t) :
    t.res = true ∧ t.vValid = true ∧ t.tcb.rcvNxt = t.view.seq + t.slen := by
  obtain rfl := Host.Outcome.next.inj ((exec_segment_accepted s v opened parsed accepted).symm.trans run)
  have results := (results_keptBySending (s.advanced v).results).segmentCascade rfl
  have view := (viewGroup_keptByStages (s.advanced v).viewGroup).segmentCascade rfl
  have rcvNxt := segmentCascade_rcvNxt (s.advanced v)
  rw [Flow.finish_eq _ ((status_keptByParts .ok).segmentCascade rfl)]
  simp only [State.results, State.viewGroup, Prod.mk.injEq] at results view
  obtain ⟨res, slen, -⟩ := results
  obtain ⟨vValid, viewEq⟩ := view
  refine ⟨res.trans accepted, vValid, ?_⟩
  rw [rcvNxt, slen, viewEq]
  rfl

theorem exec_segment_rcvNxt (s t : State) (run : exec .segment s = .next t)
    (moved : t.tcb.rcvNxt ≠ s.tcb.rcvNxt) :
    t.res = true ∧ t.vValid = true ∧ t.tcb.rcvNxt = t.view.seq + t.slen := by
  by_cases closed : s.tcb.state = .closed
  · exact absurd (congrArg Tcb.rcvNxt (exec_segment_tcb s t closed run)) moved
  cases parse : s.frame with
  | error c =>
    obtain rfl := Host.Outcome.next.inj ((exec_segment_error s c parse).symm.trans run)
    simp at moved
  | ok v =>
    cases verdict : (segmentAcc s.tcb v).ok with
    | false =>
      obtain rfl :=
        Host.Outcome.next.inj ((exec_segment_unacceptable s v closed parse verdict).symm.trans run)
      simp at moved
    | true => exact exec_segment_accepted_rcvNxt s t v closed parse verdict run

/-- Settles O52: of the commands that write the TCB group, CLOSE keeps RCV_NXT, and SEGMENT moves it at stage S3
alone. -/
theorem rcvNxtMovesOnlyByAcceptedSegments : Obligations.RcvNxtMovesOnlyByAcceptedSegments := by
  unfold Obligations.RcvNxtMovesOnlyByAcceptedSegments
  intro s t i run moved
  cases i with
  | between | acceptable | parse => exact absurd (congrArg Tcb.rcvNxt (exec_tcb (by simp) run)) moved
  | synrcv => exact .inl rfl
  | release => exact .inr (.inl rfl)
  | segment => exact .inr (.inr ⟨rfl, exec_segment_rcvNxt s t run moved⟩)
  | close =>
    obtain rfl := Host.Outcome.next.inj ((exec_close s).symm.trans run)
    obtain ⟨-, done⟩ | ⟨-, -, done⟩ | ⟨-, done⟩ := closeBody_cases s.startCommand
    all_goals simp [done] at moved

end Sys2Proof.Machine
end

section
/-! PROOF. Every step keeps each part of the invariant, the state right after reset meets all of it, and so does
every state that a host program reaches (10_state.md sections 2 to 4; 20_memory.md section 4; 60_exceptions.md
section 1). -/

namespace Sys2Proof.Machine

/-! The TCB invariant. -/

/-- The send space of a TCB that exists, by its numbers. -/
def SendSpace (st : TcbState) (iss una nxt : Word) : Prop :=
  match st with
  | .closed => False
  | .synReceived => una = iss ∧ nxt = iss + 1
  | .established => (una - iss).toNat ≤ 1 ∧ nxt = iss + 1
  | .finWait1 => (una - iss).toNat ≤ 1 ∧ nxt = iss + 2
  | .finWait2 => una = iss + 2 ∧ nxt = iss + 2
  | .timeWait => una = iss + 2 ∧ nxt = iss + 2

theorem Tcb.sendSpaceOk_iff (t : Tcb) (opened : t.state ≠ .closed) :
    t.sendSpaceOk ↔ SendSpace t.state t.sndIss t.sndUna t.sndNxt := by
  unfold Tcb.sendSpaceOk SendSpace
  cases state : t.state with
  | closed => exact absurd state opened
  | _ => exact Iff.rfl

/-- Before FinWait1 one number has been sent. -/
theorem SendSpace.beforeFin {st : TcbState} {iss una nxt : Word} (space : SendSpace st iss una nxt)
    (state : st = .synReceived ∨ st = .established) : (una - iss).toNat ≤ 1 ∧ nxt = iss + 1 := by
  obtain rfl | rfl := state
  · exact ⟨by simp [space.1], space.2⟩
  · exact space

/-- Stages S4 to S6 keep the send space: by the row without FIN. -/
theorem segmentRow_noFin_sendSpace (st : TcbState) (ackok autoclose ack2 : Bool) (iss una nxt ack : Word)
    (space : SendSpace st iss una nxt) (range : ackok = true → (ack - una).toNat ≤ (nxt - una).toNat)
    (all : ack2 = true ↔ ack = iss + 2) :
    let row := segmentRow st ackok autoclose ack2 false
    SendSpace row.state iss (if ackok = true ∧ st ≠ .timeWait then ack else una)
      (if row.emits = some 0x11 then nxt + 1 else nxt) := by
  cases ackok with
  | false => cases st <;> exact space
  | true =>
    have range := range rfl
    cases st with
    | closed => exact space.elim
    | timeWait => exact space
    | finWait2 =>
      obtain ⟨rfl, rfl⟩ := space
      have acked : ack = iss + 2 := by bv_omega
      exact ⟨acked, rfl⟩
    | finWait1 =>
      obtain ⟨near, rfl⟩ := space
      cases ack2 with
      | true => exact ⟨all.1 rfl, rfl⟩
      | false =>
        have notAll : ack ≠ iss + 2 := fun h => Bool.false_ne_true (all.2 h)
        have before : (ack - iss).toNat ≤ 1 := by bv_omega
        exact ⟨before, rfl⟩
    | synReceived | established =>
      obtain ⟨near, rfl⟩ := space.beforeFin (by simp)
      have before : (ack - iss).toNat ≤ 1 := by bv_omega
      have finNext : iss + 1 + 1 = iss + 2 := by bv_omega
      cases autoclose with
      | false => exact ⟨before, rfl⟩
      | true => exact ⟨before, finNext⟩

/-- Every row keeps the send space: a FIN moves FinWait2 to TimeWait, which have the same. -/
theorem segmentRow_sendSpace (st : TcbState) (ackok autoclose ack2 fin : Bool) (iss una nxt ack : Word)
    (space : SendSpace st iss una nxt) (range : ackok = true → (ack - una).toNat ≤ (nxt - una).toNat)
    (all : ack2 = true ↔ ack = iss + 2) :
    let row := segmentRow st ackok autoclose ack2 fin
    SendSpace row.state iss (if ackok = true ∧ st ≠ .timeWait then ack else una)
      (if row.emits = some 0x11 then nxt + 1 else nxt) := by
  have opened : st ≠ .closed := by
    rintro rfl
    exact space
  have noFin := segmentRow_noFin_sendSpace st ackok autoclose ack2 iss una nxt ack space range all
  cases fin with
  | false => exact noFin
  | true =>
    obtain ⟨-, emits⟩ := segmentRow_noFin st ackok autoclose ack2 opened
    rw [segmentRow_fin st ackok autoclose ack2 opened]
    generalize segmentRow st ackok autoclose ack2 false = row at noFin emits ⊢
    dsimp only at noFin ⊢
    by_cases two : row.state = .finWait2
    · have quiet : row.emits ≠ some 0x11 := by
        rintro sends
        obtain quiet | ⟨-, one⟩ := emits
        · simp [quiet] at sends
        · exact absurd (two.symm.trans one) (by decide)
      rw [two, if_neg quiet] at noFin
      rw [if_pos two]
      exact noFin
    · rw [if_neg two]
      exact noFin

/-- The state a row leads to meets the TCB invariant. -/
theorem State.afterRow_inv (s : State) (fin : Bool) (inv : s.tcb.Inv) (opened : s.tcb.state ≠ .closed) :
    (s.afterRow (s.row fin)).tcb.Inv := by
  have space := (s.tcb.sendSpaceOk_iff opened).1 inv.sendSpace
  have kept : SendSpace (s.row fin).state s.tcb.sndIss s.ackedUna
      (if (s.row fin).emits = some 0x11 then s.tcb.sndNxt + 1 else s.tcb.sndNxt) :=
    segmentRow_sendSpace _ _ _ _ _ _ _ _ _ space (ackOk_le (inv.sendSpace_le_two opened)) beq_iff_eq
  have stillOpen : (s.row fin).state ≠ .closed := by
    intro closed
    rw [closed] at kept
    exact kept
  exact
    { sendSpace := (Tcb.sendSpaceOk_iff _ stillOpen).2 kept
      flags := fun _ => inv.flags opened
      sndUp := inv.sndUp
      sndWl1 := inv.sndWl1
      sndWl2 := inv.sndWl2
      rcvUp := inv.rcvUp }

theorem Tcb.cleared_inv : Tcb.cleared.Inv where
  sendSpace := rfl
  flags h := absurd rfl h
  sndUp := rfl
  sndWl1 := rfl
  sndWl2 := rfl
  rcvUp := rfl

theorem synReceivedTcb_inv (iss : Word) (initWnd : Half) (v : View) : (synReceivedTcb iss initWnd v).Inv where
  sendSpace := ⟨rfl, rfl⟩
  flags _ := rfl
  sndUp := rfl
  sndWl1 := rfl
  sndWl2 := rfl
  rcvUp := rfl

/-- CLOSE's FIN takes the send space of Established to that of FinWait1. -/
theorem Tcb.Inv.finSent {t : Tcb} (inv : t.Inv) (established : t.state = .established) :
    ({ t with state := .finWait1, sndNxt := t.sndNxt + 1 } : Tcb).Inv where
  sendSpace := by
    have space := inv.sendSpace
    simp only [Tcb.sendSpaceOk, established] at space
    obtain ⟨una, nxt⟩ := space
    have finNext : t.sndNxt + 1 = t.sndIss + 2 := by bv_omega
    exact ⟨una, finNext⟩
  flags _ := inv.flags (by simp [established])
  sndUp := inv.sndUp
  sndWl1 := inv.sndWl1
  sndWl2 := inv.sndWl2
  rcvUp := inv.rcvUp

theorem exec_tcbInv (i : Instr) (s t : State) (inv : s.tcb.Inv) (run : exec i s = .next t) : t.tcb.Inv := by
  cases i with
  | between | acceptable | parse => rwa [exec_tcb (by simp) run]
  | synrcv =>
    obtain same | ⟨-, v, opened⟩ := exec_synrcv_tcb_cases run
    · rwa [same]
    · rw [opened]
      exact synReceivedTcb_inv _ _ _
  | segment =>
    obtain same | ⟨v, opened, follows⟩ := exec_segment_tcb_cases inv run
    · rwa [same]
    · rw [follows]
      exact (s.advanced v).afterRow_inv _ (inv.withRcvNxt opened _) opened
  | release =>
    obtain rfl := Host.Outcome.next.inj ((exec_release s).symm.trans run)
    exact Tcb.cleared_inv
  | close =>
    obtain same | ⟨established, sent⟩ := exec_close_tcb_cases inv run
    · rwa [same]
    · rw [sent]
      exact inv.finSent established

theorem tcbInv_keptByHost : KeptByHost (fun s => s.tcb.Inv) where
  withPending _ _ h := h
  withReturned _ _ h := h
  storeReg _ _ _ h := by rwa [State.storeReg_tcb]
  writeBufAddr _ _ _ h := by rwa [State.writeBufAddr_tcb]
  afterReset _ := Tcb.cleared_inv
  withCmd _ _ h := h
  exec := exec_tcbInv
  illegalCommand _ h := by rwa [illegalCommand_eq]

/-- Settles O54: by what each command can do to the TCB group. -/
theorem stepKeepsTcbInvariant : Obligations.StepKeepsTcbInvariant := by
  unfold Obligations.StepKeepsTcbInvariant
  exact tcbInv_keptByHost.step

/-- Settles O53: the bound follows from the invariant, which the step keeps. -/
theorem sendSpaceStaysWithinTwo : Obligations.SendSpaceStaysWithinTwo := by
  unfold Obligations.SendSpaceStaysWithinTwo
  intro s t inv run opened
  exact (stepKeepsTcbInvariant s t inv run).sendSpace_le_two opened

/-! The report invariant. -/

/-- Recording a status sets its own bit of STICKY, if it is not OK, and no other. -/
theorem stickyAfter_getLsbD (sticky : BitVec 11) (c : Status) (k : Nat) :
    (stickyAfter sticky c).getLsbD k =
      (sticky.getLsbD k || (decide (c ≠ .ok) && decide (k = c.code.toNat))) := by
  unfold stickyAfter
  split
  case isTrue ok => simp [ok]
  case isFalse notOk =>
    have small : c.code.toNat < 11 := by cases c <;> decide
    have bit : (1#11 <<< c.code.toNat).getLsbD k = decide (k = c.code.toNat) := by
      rw [BitVec.getLsbD_shiftLeft, BitVec.getLsbD_one, Bool.eq_iff_iff]
      simp
      omega
    rw [BitVec.getLsbD_or, bit]
    simp [notOk]

/-- A bit of STICKY that is no raised status's stays 0. -/
theorem stickyAfter_getLsbD_unraised {sticky : BitVec 11} {c : Status} {k : Nat}
    (unset : sticky.getLsbD k = false) (other : c ≠ .ok → c.code.toNat ≠ k) :
    (stickyAfter sticky c).getLsbD k = false := by
  rw [stickyAfter_getLsbD, unset, Bool.false_or, Bool.and_eq_false_iff, decide_eq_false_iff_not,
    decide_eq_false_iff_not]
  by_cases ok : c = .ok
  · exact .inl (not_not.2 ok)
  · exact .inr (other ok).symm

/-- SLEN holds a sequence length (41_acceptability.md R230). -/
theorem slen_keptByParts : KeptByParts (fun s => s.slen.toNat ≤ 65537) where
  withTcb _ _ h := h
  emit s h := by rwa [emit_slen]
  recordAcc _ _ len syn fin _ _ _ := (seqLengthNeverWraps len syn fin).2
  withRes _ _ h := h
  withView _ _ _ h := h
  withoutView _ h := h

theorem sticky_keptByParts (b : BitVec 11) : KeptByParts (fun s => s.sticky = b) where
  withTcb _ _ h := h
  emit s h := by rwa [emit_sticky]
  recordAcc _ _ _ _ _ _ _ h := h
  withRes _ _ h := h
  withView _ _ _ h := h
  withoutView _ h := h

/-- The end of a command with a status that is raised leaves the report registers in order. -/
theorem State.ReportInv.afterStatus {s t : State} {c : Status} (inv : s.ReportInv) (status : t.status = c)
    (sticky : t.sticky = stickyAfter s.sticky c) (slen : t.slen.toNat ≤ 65537)
    (raised : c ≠ .checksumFailure ∧ c ≠ .transportError) : t.ReportInv where
  notChecksum := status ▸ raised.1
  notTransport := status ▸ raised.2
  recorded notOk := by
    rw [status] at notOk ⊢
    simp [sticky, stickyAfter_getLsbD, notOk]
  bit0 := by
    rw [sticky]
    exact stickyAfter_getLsbD_unraised inv.bit0 (by cases c <;> simp [Status.code])
  bit5 := by
    rw [sticky]
    exact stickyAfter_getLsbD_unraised inv.bit5 (by cases c <;> simp_all [Status.code])
  bit6 := by
    rw [sticky]
    exact stickyAfter_getLsbD_unraised inv.bit6 (by cases c <;> simp_all [Status.code])
  slen := slen

/-- The report invariant speaks of three registers. -/
theorem State.ReportInv.congr {s t : State} (inv : s.ReportInv) (status : t.status = s.status)
    (sticky : t.sticky = s.sticky) (slen : t.slen = s.slen) : t.ReportInv where
  notChecksum := status ▸ inv.notChecksum
  notTransport := status ▸ inv.notTransport
  recorded := by
    rw [status, sticky]
    exact inv.recorded
  bit0 := sticky ▸ inv.bit0
  bit5 := sticky ▸ inv.bit5
  bit6 := sticky ▸ inv.bit6
  slen := slen ▸ inv.slen

theorem State.reset_reportInv : State.reset.ReportInv := by
  constructor <;> decide

/-- Codes 5 and 6 are in no command's list (R450, R451). -/
theorem exec_status_raised {i : Instr} {s t : State} (run : exec i s = .next t) :
    t.status ≠ .checksumFailure ∧ t.status ≠ .transportError := by
  have codes := statusCodesOfEachCommand s t i run
  constructor
  all_goals
    intro reserved
    rw [reserved] at codes
    cases i <;> simp at codes

theorem exec_reportInv (i : Instr) (s t : State) (inv : s.ReportInv) (run : exec i s = .next t) :
    t.ReportInv := by
  have ended := exec_eq_code run
  have sticky := (sticky_keptByParts s.sticky).commandBody i (s := s.startCommand) rfl
  have slen := slen_keptByParts.commandBody i (s := s.startCommand) inv.slen
  refine inv.afterStatus rfl ?_ ?_ (exec_status_raised run)
  · rw [ended, ← sticky]
  · rw [ended]
    exact slen

/-! What host accesses other than commands leave of STATUS, SLEN, TXLEN and TXVALID. -/

/-- The registers that only commands and reset write. -/
def State.reports (s : State) : Status × BitVec 11 × Word × Half × Bool :=
  (s.status, s.sticky, s.slen, s.txlen, s.txvalid)

theorem State.storeReg_reports (s : State) (r : Reg) (v : Word) : (s.storeReg r v).reports = s.reports := by
  cases r <;> rfl

theorem State.writeBufAddr_reports (s : State) (a : BufAddr) (b : Byte) :
    (s.writeBufAddr a b).reports = s.reports := by
  unfold State.writeBufAddr
  split <;> rfl

theorem State.ReportInv.of_reports {s t : State} (inv : s.ReportInv) (same : t.reports = s.reports) :
    t.ReportInv := by
  simp only [State.reports, Prod.mk.injEq] at same
  obtain ⟨status, sticky, slen, -⟩ := same
  exact inv.congr status sticky slen

theorem reportInv_keptByHost : KeptByHost State.ReportInv where
  withPending _ _ inv := inv.of_reports rfl
  withReturned _ _ inv := inv.of_reports rfl
  storeReg s r v inv := inv.of_reports (s.storeReg_reports r v)
  writeBufAddr s a b inv := inv.of_reports (s.writeBufAddr_reports a b)
  afterReset _ := State.reset_reportInv.of_reports rfl
  withCmd _ _ inv := inv.of_reports rfl
  exec := exec_reportInv
  illegalCommand s inv := inv.afterStatus (c := .illegalCmd) rfl rfl inv.slen (by decide)

/-- Settles O55: a command records the status it ends with, and no other access writes these registers. -/
theorem stepKeepsReportInvariant : Obligations.StepKeepsReportInvariant := by
  unfold Obligations.StepKeepsReportInvariant
  exact reportInv_keptByHost.step

/-! The view invariant. -/

theorem State.ViewInv.of_viewGroup {s t : State} (inv : s.ViewInv) (same : t.viewGroup = s.viewGroup) :
    t.ViewInv := by
  obtain ⟨valid, view⟩ := Prod.mk.inj same
  exact
    { proto := view ▸ inv.proto
      validProto := by rw [valid, view]; exact inv.validProto
      header := by rw [valid, view]; exact inv.header
      payload := by rw [valid, view]; exact inv.payload }

/-- The view of a good frame lies in the frame (R395, R397). -/
theorem withView_viewInv (s : State) (v : View) (parsed : s.frame = .ok v) : (s.withView v).ViewInv := by
  obtain ⟨ihl, total, offset, good, rfl⟩ := (frameView_eq_ok_iff _ _ v).1 parsed
  obtain ⟨plen, dlen, doff⟩ := good.viewOf_extent
  obtain ⟨-, fits⟩ := good.length
  obtain ⟨ihlMin, -⟩ := good.header
  obtain ⟨totalMin, inside⟩ := good.extent
  obtain ⟨offsetMin, tcpFits⟩ := good.tcpExtent
  have tcpHeader := good.tcpHeader
  exact
    { proto := .inr rfl
      validProto := fun _ => rfl
      header := fun _ => by rw [State.withView_view]; omega
      payload := fun _ => by rw [State.withView_view]; omega }

theorem viewInv_keptByParts : KeptByParts State.ViewInv where
  withTcb _ _ inv := inv.of_viewGroup rfl
  emit s inv := inv.of_viewGroup (by rw [emit_eq]; rfl)
  recordAcc _ _ _ _ _ _ _ inv := inv.of_viewGroup rfl
  withRes _ _ inv := inv.of_viewGroup rfl
  withView s v parsed _ := withView_viewInv s v parsed
  withoutView _ inv := { proto := inv.proto, validProto := nofun, header := nofun, payload := nofun }

theorem exec_viewInv (i : Instr) (s t : State) (inv : s.ViewInv) (run : exec i s = .next t) : t.ViewInv := by
  have start : s.startCommand.ViewInv := inv.of_viewGroup rfl
  rw [exec_eq_code run]
  exact (viewInv_keptByParts.commandBody i start).of_viewGroup rfl

theorem State.reset_viewInv : State.reset.ViewInv where
  proto := .inl rfl
  validProto := nofun
  header := nofun
  payload := nofun

theorem viewInv_keptByHost : KeptByHost State.ViewInv where
  withPending _ _ inv := inv.of_viewGroup rfl
  withReturned _ _ inv := inv.of_viewGroup rfl
  storeReg s r v inv := inv.of_viewGroup (by simp [State.viewGroup])
  writeBufAddr s a b inv := inv.of_viewGroup (by simp [State.viewGroup])
  afterReset _ := State.reset_viewInv.of_viewGroup rfl
  withCmd _ _ inv := inv.of_viewGroup rfl
  exec := exec_viewInv
  illegalCommand s inv := inv.of_viewGroup (by rw [illegalCommand_eq]; rfl)

/-- Settles O56: only a parse writes the view registers, and on success they are those of a good frame. -/
theorem stepKeepsViewInvariant : Obligations.StepKeepsViewInvariant := by
  unfold Obligations.StepKeepsViewInvariant
  exact viewInv_keptByHost.step

end Sys2Proof.Machine
end

section
/-! PROOF. Every step keeps the buffer invariant, the state right after reset meets every part of the invariant, and
so does every state a host program reaches (20_memory.md section 4; 60_exceptions.md section 1;
70_reset_and_hazards.md section 1). -/

namespace Sys2Proof.Machine

/-! TXVALID comes with a TCB: what emits runs in a state other than Closed, or enters one. -/

/-- No stage after S3 enters Closed. -/
theorem stageEstablish_opened (ackok : Bool) {s : State} (opened : s.tcb.state ≠ .closed) :
    (stageEstablish ackok s).tcb.state ≠ .closed := by
  unfold stageEstablish
  split
  · simp
  · exact opened

theorem stageAck_opened (ackok : Bool) {s : State} (opened : s.tcb.state ≠ .closed) :
    (stageAck ackok s).tcb.state ≠ .closed := by
  rw [stageAck_eq]
  split_ifs
  · simp [sendFin]
  · exact opened
  · exact opened

theorem stageFinAcked_opened {s : State} (opened : s.tcb.state ≠ .closed) :
    (stageFinAcked s).tcb.state ≠ .closed := by
  unfold stageFinAcked
  split
  · simp
  · exact opened

theorem stageFin_opened {s : State} (opened : s.tcb.state ≠ .closed) :
    (stageFin s).held.tcb.state ≠ .closed := by
  obtain ⟨-, noFin⟩ | ⟨-, -, acked⟩ | ⟨-, -, violation⟩ := stageFin_cases s
  · rwa [noFin]
  · simp [acked]
  · rwa [violation]

/-- A flow that has set TXVALID holds a TCB. -/
def Flow.SendsWithTcb (f : Flow) : Prop := f.held.txvalid = true → f.held.tcb.state ≠ .closed

/-- A flow that holds TXVALID 0 has sent nothing. -/
theorem Flow.sendsWithTcb_of_txvalid {f : Flow} (silent : f.held.txvalid = false) : f.SendsWithTcb := by
  intro sent
  exact absurd (silent.symm.trans sent) Bool.false_ne_true

section
variable {s : State} (silent : s.txvalid = false)
include silent

theorem parseFrame_txvalid : (parseFrame s).held.txvalid = false := by
  cases parse : s.frame with
  | ok v => rwa [parseFrame_ok s v parse]
  | error c => rwa [parseFrame_error s c parse]

theorem synrcvBody_sendsWithTcb : (synrcvBody s).SendsWithTcb := by
  obtain ⟨-, busy⟩ | ⟨-, -, notSyn⟩ | ⟨-, -, opens⟩ := synrcvBody_cases s
  · rw [busy]
    exact Flow.sendsWithTcb_of_txvalid silent
  · rw [notSyn]
    exact Flow.sendsWithTcb_of_txvalid silent
  · intro _
    simp [opens, openConnection]

theorem closeBody_sendsWithTcb : (closeBody s).SendsWithTcb := by
  obtain ⟨-, ignored⟩ | ⟨-, -, violation⟩ | ⟨-, sends⟩ := closeBody_cases s
  · rw [ignored]
    exact Flow.sendsWithTcb_of_txvalid silent
  · rw [violation]
    exact Flow.sendsWithTcb_of_txvalid silent
  · intro _
    simp [sends, sendFin]

theorem segmentBody_sendsWithTcb : (segmentBody s).SendsWithTcb := by
  obtain ⟨-, ignored⟩ | ⟨opened, -, unacceptable⟩ | ⟨opened, -, accepted⟩ := segmentBody_cases s
  · rw [ignored]
    exact Flow.sendsWithTcb_of_txvalid silent
  · intro _
    simpa [unacceptable] using opened
  · intro _
    rw [accepted]
    exact stageFin_opened (stageFinAcked_opened (stageAck_opened _ (stageEstablish_opened _ opened)))

/-- A part that sends with a TCB can be put after a parse. -/
theorem parseFrame_andThen_sendsWithTcb {g : State → Flow}
    (part : ∀ t : State, t.txvalid = false → (g t).SendsWithTcb) :
    ((parseFrame s).andThen g).SendsWithTcb := by
  have parsed := parseFrame_txvalid silent
  cases parse : parseFrame s with
  | go t =>
    rw [parse] at parsed
    exact part t parsed
  | raise c t =>
    rw [parse] at parsed
    exact Flow.sendsWithTcb_of_txvalid parsed

theorem commandBody_sendsWithTcb (i : Instr) : (commandBody i s).SendsWithTcb := by
  cases i with
  | between | acceptable | release => exact Flow.sendsWithTcb_of_txvalid silent
  | parse => exact Flow.sendsWithTcb_of_txvalid (parseFrame_txvalid silent)
  | synrcv => exact parseFrame_andThen_sendsWithTcb silent fun _ => synrcvBody_sendsWithTcb
  | segment =>
    exact parseFrame_andThen_sendsWithTcb (s := s.withRes false) silent fun _ => segmentBody_sendsWithTcb
  | close => exact closeBody_sendsWithTcb silent

end

/-! Buffer space. -/

/-- The buffer invariant without its clause on the TCB: so it speaks of the memory and two registers. -/
structure State.DatagramInv (s : State) : Prop where
  form : s.buf.wf
  txlen : s.txlen = 0 ∨ s.txlen = 40
  sent : s.txvalid = true → s.txlen = 40
  written : s.txlen = 40 → ∀ i, i < 40 → (s.buf.byteAt (txBase + i)).isSome = true

theorem State.bufferInv_iff (s : State) :
    s.BufferInv ↔ s.DatagramInv ∧ (s.txvalid = true → s.tcb.state ≠ .closed) := by
  constructor
  · intro inv
    exact ⟨⟨inv.form, inv.txlen, fun sent => (inv.txvalid sent).1, inv.written⟩,
      fun sent => (inv.txvalid sent).2⟩
  · rintro ⟨inv, connected⟩
    exact ⟨inv.form, inv.txlen, fun sent => ⟨inv.sent sent, connected sent⟩, inv.written⟩

/-- An emission stores forty bytes, each at an address that a write can reach. -/
theorem emit_datagramInv (s : State) (inv : s.DatagramInv) : (emit s).DatagramInv where
  form := by
    rw [emit_buf, datagramLen_eq]
    refine Memory.setBytes_wf _ _ _ (fun i inside => ?_) inv.form
    rw [datagram_forty_length] at inside
    simp [writable, inside]
  txlen := .inr (by simp)
  sent _ := by simp
  written _ i inside := by
    have stored : txBase ≤ txBase + i ∧ txBase + i < txBase + 40 := by omega
    rw [emit_buf, datagramLen_eq, Memory.byteAt_setBytes, datagram_forty_length, if_pos stored,
      Nat.add_sub_cancel_left]
    simpa using inside

theorem datagramInv_keptByParts : KeptByParts State.DatagramInv where
  withTcb _ _ inv := ⟨inv.form, inv.txlen, inv.sent, inv.written⟩
  emit := emit_datagramInv
  recordAcc _ _ _ _ _ _ _ inv := ⟨inv.form, inv.txlen, inv.sent, inv.written⟩
  withRes _ _ inv := ⟨inv.form, inv.txlen, inv.sent, inv.written⟩
  withView _ _ _ inv := ⟨inv.form, inv.txlen, inv.sent, inv.written⟩
  withoutView _ inv := ⟨inv.form, inv.txlen, inv.sent, inv.written⟩

/-- The start of a command takes TXVALID back, and nothing else of the invariant. -/
theorem State.DatagramInv.silenced {s t : State} (inv : s.DatagramInv) (buf : t.buf = s.buf)
    (txlen : t.txlen = s.txlen) (silent : t.txvalid = false) : t.DatagramInv where
  form := buf ▸ inv.form
  txlen := txlen ▸ inv.txlen
  sent sent := absurd (silent.symm.trans sent) Bool.false_ne_true
  written := by
    rw [txlen, buf]
    exact inv.written

theorem exec_bufferInv (i : Instr) (s t : State) (inv : s.BufferInv) (run : exec i s = .next t) :
    t.BufferInv := by
  obtain ⟨stored, -⟩ := (s.bufferInv_iff).1 inv
  have start : s.startCommand.DatagramInv := stored.silenced rfl rfl rfl
  have held := datagramInv_keptByParts.commandBody i start
  rw [exec_eq_code run, State.bufferInv_iff]
  exact ⟨⟨held.form, held.txlen, held.sent, held.written⟩, commandBody_sendsWithTcb rfl i⟩

theorem State.BufferInv.congr {s t : State} (inv : s.BufferInv) (buf : t.buf = s.buf)
    (reports : t.reports = s.reports) (tcb : t.tcb = s.tcb) : t.BufferInv := by
  simp only [State.reports, Prod.mk.injEq] at reports
  obtain ⟨-, -, -, txlen, txvalid⟩ := reports
  exact
    { form := buf ▸ inv.form
      txlen := txlen ▸ inv.txlen
      txvalid := by rw [txvalid, txlen, tcb]; exact inv.txvalid
      written := by rw [txlen, buf]; exact inv.written }

theorem State.storeReg_buf (s : State) (r : Reg) (v : Word) : (s.storeReg r v).buf = s.buf := by
  cases r <;> rfl

/-- A host write reaches RXBUF alone, and so leaves every byte of a datagram written. -/
theorem writeBufAddr_bufferInv (s : State) (a : BufAddr) (b : Byte) (inv : s.BufferInv) :
    (s.writeBufAddr a b).BufferInv := by
  cases rx : inRxbuf a.toNat with
  | false => rwa [State.writeBufAddr_ignored s a b rx]
  | true =>
    rw [State.writeBufAddr_rxbuf s a b rx]
    exact
      { form := Memory.setByte_wf _ _ _ (by simp [writable, rx]) inv.form
        txlen := inv.txlen
        txvalid := inv.txvalid
        written := fun sent i inside => by
          rw [Memory.byteAt_setByte]
          split
          · rfl
          · exact inv.written sent i inside }

theorem State.reset_bufferInv : State.reset.BufferInv where
  form := State.reset_buf_wf
  txlen := .inl rfl
  txvalid := nofun
  written := nofun

theorem bufferInv_keptByHost : KeptByHost State.BufferInv where
  withPending _ _ inv := inv.congr rfl rfl rfl
  withReturned _ _ inv := inv.congr rfl rfl rfl
  storeReg s r v inv := inv.congr (s.storeReg_buf r v) (s.storeReg_reports r v) (s.storeReg_tcb r v)
  writeBufAddr := writeBufAddr_bufferInv
  afterReset _ := State.reset_bufferInv.congr rfl rfl rfl
  withCmd _ _ inv := inv.congr rfl rfl rfl
  exec := exec_bufferInv
  illegalCommand s inv := by
    obtain ⟨stored, -⟩ := (s.bufferInv_iff).1 inv
    rw [State.bufferInv_iff]
    exact ⟨stored.silenced rfl rfl rfl, nofun⟩

/-- Settles O57: an emission stores a whole datagram for a TCB that exists, and the host writes RXBUF alone. -/
theorem stepKeepsBufferInvariant : Obligations.StepKeepsBufferInvariant := by
  unfold Obligations.StepKeepsBufferInvariant
  exact bufferInv_keptByHost.step

/-! All four parts, from reset on. -/

/-- Settles O58: each part at the values of the reset column. -/
theorem resetMeetsInvariant : Obligations.ResetMeetsInvariant where
  tcb := Tcb.cleared_inv
  report := State.reset_reportInv
  view := State.reset_viewInv
  buffer := State.reset_bufferInv

theorem State.Inv.withPending {s : State} (inv : s.Inv) (es : List HostEvent) : (s.withPending es).Inv where
  tcb := inv.tcb
  report := reportInv_keptByHost.withPending s es inv.report
  view := viewInv_keptByHost.withPending s es inv.view
  buffer := bufferInv_keptByHost.withPending s es inv.buffer

/-- Every step answers a next state that meets the invariant again. -/
theorem State.Inv.step {s : State} (inv : s.Inv) : ∃ t, Machine.step s = .next t ∧ t.Inv := by
  obtain ⟨t, run⟩ := everyStepAnswersNext s
  exact ⟨t, run, stepKeepsTcbInvariant s t inv.tcb run, stepKeepsReportInvariant s t inv.report run,
    stepKeepsViewInvariant s t inv.view run, stepKeepsBufferInvariant s t inv.buffer run⟩

/-- The first of several steps. -/
theorem run_succ_of_step (M : Host.Core) (k : Nat) (s t : M.State) (stepped : M.step s = .next t) :
    M.run (k + 1) s = M.run k t := by
  rw [Host.Core.run, stepped]

/-- Any number of steps from a state that meets the invariant answers one that does. -/
theorem State.Inv.run (k : Nat) {s : State} (inv : s.Inv) :
    ∃ t : State, Host.Core.run core k s = .next t ∧ t.Inv := by
  induction k generalizing s with
  | zero => exact ⟨s, rfl, inv⟩
  | succ k ih =>
    obtain ⟨s', step, inv'⟩ := inv.step
    obtain ⟨t, rest, invEnd⟩ := ih inv'
    exact ⟨t, (run_succ_of_step core k s s' step).trans rest, invEnd⟩

/-- Settles O59: by induction on the number of steps, from the state right after reset with the program pending. -/
theorem everyHostProgramStaysSafe : Obligations.EveryHostProgramStaysSafe := by
  unfold Obligations.EveryHostProgramStaysSafe
  exact fun es k => (resetMeetsInvariant.withPending es).run k

end Sys2Proof.Machine
end
